-- ==== Sys2Proof/Syntax.lean ====
section
/-! DEFINITION. The closed set of seven operations, spec/30_encoding.md R74: one constructor per row of
spec/opcode_table.json. No operation has an operand or an immediate (R75). -/

namespace Sys2Proof

/-- The operations of R74; exactly one is performed at every rising clock edge (spec/00_scope.md R17). -/
inductive Instr where
  /-- RESET, spec/42_system_ops.md R140. -/
  | reset
  /-- IDLE, spec/42_system_ops.md R141. -/
  | idle
  /-- TICK.COUNT, spec/40_tick_divider.md R92. -/
  | tickCount
  /-- STEP.STALL.UP, spec/41_ramp_step.md R113. -/
  | stepStallUp
  /-- STEP.UP, spec/41_ramp_step.md R111. -/
  | stepUp
  /-- STEP.STALL.DOWN, spec/41_ramp_step.md R114. -/
  | stepStallDown
  /-- STEP.DOWN, spec/41_ramp_step.md R112. -/
  | stepDown
  deriving DecidableEq, Repr

end Sys2Proof
end

