-- ==== Sys2Proof/Word.lean ====
section
/-! DEFINITION. The two bit formats of the engine, spec/30_encoding.md R71 and R73. Every other value of
this hardware is a natural number (spec/00_scope.md R11, R14; log 8). -/

namespace Sys2Proof

/-- Format `EV`, 2 bits, R71: bit 1 is `rst`, bit 0 is `tick`. -/
abbrev EventWord := BitVec 2

/-- Format `SEL`, 5 bits, R73: `rst`, `tick`, `last`, `dir`, `room`, the first the highest bit. -/
abbrev SelectWord := BitVec 5

end Sys2Proof
end

