-- ==== Sys2Proof/Decode.lean ====
section
/-! DEFINITION. The operation table of spec/30_encoding.md R74 read both ways: from a select word to an
operation, and from an operation to its select words. -/

namespace Sys2Proof

/-- The operation a select word selects, R74; total, since no select word is illegal (R76). -/
def decode (sel : SelectWord) : Instr :=
  if sel[4] then .reset
  else if !sel[3] then .idle
  else if !sel[2] then .tickCount
  else
    match sel[1], sel[0] with
    | false, false => .stepStallUp
    | false, true => .stepUp
    | true, false => .stepStallDown
    | true, true => .stepDown

/-- Why a number is no select word. -/
inductive DecodeError where
  /-- It has a bit above bit 4, so it is no 5-bit select word (R73). -/
  | notASelectWord
  deriving DecidableEq, Repr

/-- Decoding any natural number: a number of more than 5 bits is rejected by name. -/
def decodeNat (n : Nat) : Except DecodeError Instr :=
  if n < 32 then .ok (decode (BitVec.ofNat 5 n)) else .error .notASelectWord

/-- The operation of the table row whose bits are the low `nbits` bits of `w`. A row of
spec/opcode_table.json is one 5-bit select word, bit 0 its least significant; where whole bytes are
given, the bits above bit 4 must be 0 (log 12). -/
def decodeTableWord (nbits w : Nat) : Option Instr :=
  match decodeNat (w % 2 ^ nbits) with
  | .ok i => some i
  | .error _ => none

/-- The `match` column of R74. -/
def Instr.pattern : Instr → SelectWord
  | .reset => 0x10#5
  | .idle => 0x00#5
  | .tickCount => 0x08#5
  | .stepStallUp => 0x0C#5
  | .stepUp => 0x0D#5
  | .stepStallDown => 0x0E#5
  | .stepDown => 0x0F#5

/-- The `mask` column of R74: the bits the row tests. -/
def Instr.mask : Instr → SelectWord
  | .reset => 0x10#5
  | .idle => 0x18#5
  | .tickCount => 0x1C#5
  | .stepStallUp => 0x1F#5
  | .stepUp => 0x1F#5
  | .stepStallDown => 0x1F#5
  | .stepDown => 0x1F#5

/-- A select word of operation `i`: the row's pattern, and `fill` in the bits the row does not test. -/
def encodeWith (i : Instr) (fill : SelectWord) : SelectWord :=
  i.pattern ||| (fill &&& ~~~i.mask)

/-- The select word of operation `i` whose untested bits are 0. -/
def encode (i : Instr) : SelectWord := encodeWith i 0#5

/-- The event word that the two highest bits of a select word repeat, R73. -/
def SelectWord.event (sel : SelectWord) : EventWord := sel.extractLsb' 3 2

end Sys2Proof
end

