-- ==== Sys2Proof/Config.lean ====
section
/-! DEFINITION. What is fixed for one engine: the five compile-time constants (spec/00_scope.md R8, R9)
and the two register widths (R11); the constants derived from them (R12); the reference configuration
(R13); and the comparator's free values (spec/10_state.md R25, spec/20_memory.md R64). -/

namespace Sys2Proof

/-- The constants of one engine, all natural numbers. Which tuples are legal is `Config.Legal`
(Sys2Proof/WellFormed.lean). -/
structure Config where
  /-- `LOWEST`, the brightness floor. -/
  lowest : Nat
  /-- `HIGHEST`, the brightness ceiling. -/
  highest : Nat
  /-- `STEP`, the duty-cycle change per step. -/
  step : Nat
  /-- `TICKS_PER_STEP`, written `T` in the rules. -/
  ticksPerStep : Nat
  /-- `CARRIER_PERIOD`, the length of the comparator's fixed cycle. -/
  carrierPeriod : Nat
  /-- `W`, the width in bits of `DUTY`, `THR` and `thr_data`. -/
  dutyWidth : Nat
  /-- `DW`, the width in bits of `DIV`. -/
  divWidth : Nat
  deriving DecidableEq, Repr

/-- `RANGE`, R12. -/
def Config.range (c : Config) : Nat := c.highest - c.lowest

/-- `N = ceil(RANGE / STEP)`, the number of step ticks in one ramp, R12. -/
def Config.rampSteps (c : Config) : Nat := (c.range + (c.step - 1)) / c.step

/-- `BREATH = 2 · N · T`, the number of ticks in one breath, R12. -/
def Config.breathTicks (c : Config) : Nat := 2 * c.rampSteps * c.ticksPerStep

/-- `CFG_REF`, R13. DESIGN CHOICE (log 2): `CARRIER_PERIOD`, which R13 leaves at any value of at least
1000, is 1000, and the widths are R13's minimum `W = 10` and `DW = 11`. -/
def Config.reference : Config where
  lowest := 100
  highest := 1000
  step := 1
  ticksPerStep := 2000
  carrierPeriod := 1000
  dutyWidth := 10
  divWidth := 11

/-- Free value (log 6): whether a carrier cycle starts between clock edge `n` and the next one. The
spec relates ticks and carrier cycles in no way (spec/20_memory.md R64, N10). -/
opaque Config.carrierStarts : Nat → Bool

/-- Free value (log 6): whether the comparator lets the written threshold take effect between clock
edge `n` and the next one although no carrier cycle starts there ("the moment chosen by the
comparator", spec/10_state.md R25). -/
opaque Config.takesEffectEarly : Nat → Bool

end Sys2Proof
end

