-- ==== Sys2Proof/WellFormed.lean ====
section
/-! DEFINITION. Which configurations are legal: the six checks of spec/60_exceptions.md R152. An operation
has no operand (spec/30_encoding.md R75) and no encoding is illegal (R76), so the configuration is the
only thing of this hardware that can be ill-formed. -/

namespace Sys2Proof

/-- The labels of R152, decision D13. -/
inductive ConfigCheck where
  /-- `CFG_E1`: `LOWEST < HIGHEST`. -/
  | e1
  /-- `CFG_E2`: `TICKS_PER_STEP ≥ 1`. -/
  | e2
  /-- `CFG_E3`: `STEP ≥ 1`. -/
  | e3
  /-- `CFG_E4`: `HIGHEST ≤ CARRIER_PERIOD`. -/
  | e4
  /-- `CFG_E5`: `LOWEST ≥ 1`. -/
  | e5
  /-- `CFG_E6`: `CARRIER_PERIOD ≤ 2^W − 1` and `TICKS_PER_STEP − 1 ≤ 2^DW − 1`. -/
  | e6
  deriving DecidableEq, Repr

/-- What check `k` asks of a configuration, R152. -/
def ConfigCheck.passes (k : ConfigCheck) (c : Config) : Bool :=
  match k with
  | .e1 => decide (c.lowest < c.highest)
  | .e2 => decide (1 ≤ c.ticksPerStep)
  | .e3 => decide (1 ≤ c.step)
  | .e4 => decide (c.highest ≤ c.carrierPeriod)
  | .e5 => decide (1 ≤ c.lowest)
  | .e6 => decide (c.carrierPeriod ≤ 2 ^ c.dutyWidth - 1 ∧ c.ticksPerStep - 1 ≤ 2 ^ c.divWidth - 1)

/-- The checks in R152's order. -/
def ConfigCheck.all : List ConfigCheck := [.e1, .e2, .e3, .e4, .e5, .e6]

/-- The first check of R152 that the configuration fails, if any. DESIGN CHOICE (log 10): where several
fail, the first in the table's order is the one named. -/
def Config.firstFailed (c : Config) : Option ConfigCheck :=
  ConfigCheck.all.find? (fun k => !k.passes c)

/-- A legal configuration: every constraint of spec/00_scope.md R9 and R11 holds. -/
abbrev Config.Legal (c : Config) : Prop :=
  c.lowest < c.highest ∧ 1 ≤ c.ticksPerStep ∧ 1 ≤ c.step ∧ c.highest ≤ c.carrierPeriod ∧
    1 ≤ c.lowest ∧ c.carrierPeriod ≤ 2 ^ c.dutyWidth - 1 ∧ c.ticksPerStep - 1 ≤ 2 ^ c.divWidth - 1

end Sys2Proof
end

