-- ==== Sys2Proof/Machine/State.lean ====
section
/-! DEFINITION. The state of the machine (spec/10_state.md R20), the state after RESET (R33), and the
reasons a step can stop. -/

namespace Sys2Proof.Machine

/-- The two values of `DIR`, spec/10_state.md R22. -/
inductive Dir where
  | rising
  | falling
  deriving DecidableEq, Repr

/-- The whole state of the modelled machine: the five items of R20 and four fields of the model's own. -/
structure State where
  /-- The constants and widths of this machine. Not state in the spec (R8, R20): no operation changes
  it, and it stands here because a step takes nothing else (log 1). -/
  cfg : Config
  /-- `DUTY`, the duty-cycle register, R21. -/
  duty : Nat
  /-- `DIR`, the direction flag, R22. -/
  dir : Dir
  /-- `DIV`, the tick divider, R23. -/
  div : Nat
  /-- `THR`, the comparator's threshold register, R24. -/
  thr : Nat
  /-- `THR_EFF`, the threshold the comparator is using, R25. -/
  thrEff : Nat
  /-- The write trace, oldest write first: the ghost history of spec/20_memory.md R55 (log 7). -/
  trace : List Nat
  /-- The event words the environment presents at the coming clock edges, the next one first
  (spec/30_encoding.md R70, R82; log 3). -/
  events : List EventWord
  /-- How many clock edges have passed: the argument of the comparator's free values (log 6). -/
  edges : Nat
  deriving DecidableEq, Repr

/-- No operation of the engine raises, traps, faults or reports an error (spec/60_exceptions.md R150,
R151), so there is no fault to name: nothing raises one (log 13, safe). -/
inductive Fault where
  deriving DecidableEq, Repr

/-- Why a step has no meaning. -/
inductive Refusal where
  /-- Raised by an arm of `exec` whose operation has no meaning yet; no arm does. Safe. -/
  | notModelled (mnemonic : String)
  /-- Raised by `step`, before anything is decoded, when the configuration fails a check of
  spec/60_exceptions.md R152: such an engine is not built and has no behaviour. Safe (log 10). -/
  | illegalConfig (check : ConfigCheck)
  deriving DecidableEq, Repr

/-- The state of an engine of configuration `c` after the RESET operation that starts every execution
(R33, spec/70_reset_and_hazards.md R181). `THR_EFF` is unspecified there: DESIGN CHOICE `LOWEST`
(log 5). The environment presents nothing yet (log 3). -/
def State.afterReset (c : Config) : State where
  cfg := c
  duty := c.lowest
  dir := .rising
  div := 0
  thr := c.lowest
  thrEff := c.lowest
  trace := [c.lowest]
  events := []
  edges := 0

/-- The machine right after reset, in the reference configuration of spec/00_scope.md R13 (log 2). -/
def State.reset : State := State.afterReset Config.reference

end Sys2Proof.Machine
end

