-- ==== Sys2Proof/Machine/Flags.lean ====
section
/-! DEFINITION. The conditions an operation computes and does not store (spec/10_state.md R28), and the
one flag update of the hardware, the direction flip (spec/41_ramp_step.md R115). -/

namespace Sys2Proof.Machine

/-- `T − 1`, the divider's terminal count; a natural number since `T ≥ 1` (spec/30_encoding.md R73). -/
def terminalCount (c : Config) : Nat := c.ticksPerStep - 1

/-- `last`, select bit 2 of R73: `DIV ≥ T − 1`. -/
def isLast (s : State) : Bool := decide (terminalCount s.cfg ≤ s.div)

/-- `room`, select bit 0 of R73: the guard of the move in the current direction. -/
def hasRoom (s : State) : Bool :=
  match s.dir with
  | .falling => decide (s.cfg.lowest < s.duty)
  | .rising => decide (s.duty < s.cfg.highest)

/-- `at_low` of R28, for the new duty value `d`. -/
def atLow (c : Config) (d : Nat) : Bool := decide (d = c.lowest)

/-- `at_high` of R28, for the new duty value `d`. -/
def atHigh (c : Config) (d : Nat) : Bool := decide (d = c.highest)

/-- The direction flip, R115: from the old direction `r` and the new duty value `d`, the two equality
tests in the rule's order. -/
def flip (c : Config) (r : Dir) (d : Nat) : Dir :=
  let r := if atLow c d then .rising else r
  if atHigh c d then .falling else r

end Sys2Proof.Machine
end

