-- ==== Sys2Proof/Machine/Operands.lean ====
section
/-! DEFINITION. What an operation reads: no operation has an operand field (spec/30_encoding.md R75), so
these are the input word at the edge, the select word formed from it and the state (R71, R73), and the
two saturating moves of the duty value (spec/41_ramp_step.md R111, R112). -/

namespace Sys2Proof.Machine

/-- `DIR` as a bit, spec/30_encoding.md R77. -/
def Dir.bit : Dir → Bool
  | .rising => false
  | .falling => true

/-- The event word presented at the coming edge: the first of the queue, and with nothing presented
both inputs are 0 (spec/42_system_ops.md R142; log 3). -/
def presented (s : State) : EventWord := s.events.headD 0b00#2

/-- The input `rst` at the coming edge, R71. -/
def rstInput (s : State) : Bool := (presented s)[1]

/-- The input `tick` at the coming edge, R71. -/
def tickInput (s : State) : Bool := (presented s)[0]

/-- The select word of the coming edge, R73. -/
def selectWord (s : State) : SelectWord :=
  presented s ++ (BitVec.ofBool (isLast s) ++ (BitVec.ofBool s.dir.bit ++ BitVec.ofBool (hasRoom s)))

/-- The rising move, R111: `min(HIGHEST, DUTY + STEP)`, on natural numbers. -/
def riseTarget (s : State) : Nat := min s.cfg.highest (s.duty + s.cfg.step)

/-- The falling move, R112: `max(LOWEST, DUTY ∸ STEP)`, the subtraction truncated at 0. -/
def fallTarget (s : State) : Nat := max s.cfg.lowest (s.duty - s.cfg.step)

end Sys2Proof.Machine
end

