-- ==== Sys2Proof/Machine/Ops.lean ====
section
/-! DEFINITION. The named operations over the state: register writes, the threshold write (spec/20_memory.md
R52), the actions all step operations share (spec/41_ramp_step.md R110, R115, R116), what happens
around an operation (the event used up, the comparator's move), and presenting one select word.

TAKING AN EXCEPTION: there is none to take (spec/60_exceptions.md R150, R151). The one interrupt is the
tick: taking it saves nothing, changes no mode and uses no vector; it is the operation selected (R154,
R159), and there is no return operation (R160). -/

namespace Sys2Proof.Machine

/-- `DUTY <- v`. -/
def State.setDuty (s : State) (v : Nat) : State := { s with duty := v }

/-- `DIR <- r`. -/
def State.setDir (s : State) (r : Dir) : State := { s with dir := r }

/-- `DIV <- v`. -/
def State.setDiv (s : State) (v : Nat) : State := { s with div := v }

/-- `ThrWrite(v)`, R52: `THR <- v`, and `v` appended to the write trace (R55). The value reaches `THR`
whole (R58), and nothing else happens (R59). -/
def State.thrWrite (s : State) (v : Nat) : State := { s with thr := v, trace := s.trace ++ [v] }

/-- `THR_EFF` set by the comparator, spec/10_state.md R25. -/
def State.setThrEff (s : State) (v : Nat) : State := { s with thrEff := v }

/-- The environment presents `ev` at the next edge, before everything already queued. -/
def State.present (s : State) (ev : EventWord) : State := { s with events := ev :: s.events }

/-- The clock edge is over: its event word is consumed (spec/60_exceptions.md R155) and the edge is
counted. -/
def State.finishEdge (s : State) : State := { s with events := s.events.tail, edges := s.edges + 1 }

/-- What every step operation does with the new duty value `d`, in the order of R117: clear the divider
(R110), move, flip from the old direction by the new value (R115), write the threshold (R116). -/
def stepActions (d : Nat) (s : State) : State :=
  (((s.setDiv 0).setDuty d).setDir (flip s.cfg s.dir d)).thrWrite d

/-- The registers RESET writes, spec/42_system_ops.md R140. -/
def resetActions (s : State) : State :=
  (((s.setDuty s.cfg.lowest).setDir .rising).setDiv 0).thrWrite s.cfg.lowest

/-- Whether the comparator lets `THR` take effect between edge `n` and the next: it must when a carrier
cycle starts there (R64), and it may earlier (R25). Both are free values (log 6). -/
def takesEffect (n : Nat) : Bool := Config.carrierStarts n || Config.takesEffectEarly n

/-- The comparator's move between this edge and the next, R25, R64: `THR_EFF` becomes `THR` or keeps
its value. -/
def comparatorMove (s : State) : State :=
  s.setThrEff (if takesEffect s.edges then s.thr else s.thrEff)

/-- What a step adds after the operation: the comparator's move, then the end of the edge. -/
def afterOperation (s : State) : State := (comparatorMove s).finishEdge

/-- The operation selected at the coming edge, R72 to R74. -/
def selected (s : State) : Instr := decode (selectWord s)

/-- `s` with the registers that operation `i`'s row of R74 tests made to agree with the row, each left
alone where it already does. TICK.COUNT cannot be selected with `T = 1` (spec/40_tick_divider.md R92
(b)), whatever `DIV` holds. -/
def meetRow (i : Instr) (s : State) : State :=
  match i with
  | .reset => s
  | .idle => s
  | .tickCount => if isLast s then s.setDiv 0 else s
  | .stepStallUp => ((s.setDiv (max s.div (terminalCount s.cfg))).setDir .rising).setDuty (max s.duty s.cfg.highest)
  | .stepUp =>
    ((s.setDiv (max s.div (terminalCount s.cfg))).setDir .rising).setDuty
      (if s.duty < s.cfg.highest then s.duty else s.cfg.lowest)
  | .stepStallDown =>
    ((s.setDiv (max s.div (terminalCount s.cfg))).setDir .falling).setDuty (min s.duty s.cfg.lowest)
  | .stepDown =>
    ((s.setDiv (max s.div (terminalCount s.cfg))).setDir .falling).setDuty
      (if s.cfg.lowest < s.duty then s.duty else s.cfg.highest)

/-- `s` made to select, at its next edge, the operation of the table row whose bits are `w`: the event
word is `w`'s two highest bits, and the registers the row tests agree with it (log 12). A number that is
no select word changes nothing. -/
def placeWord (s : State) (nbits w : Nat) : State :=
  match decodeTableWord nbits w with
  | some i => (meetRow i s).present (SelectWord.event (BitVec.ofNat 5 (w % 2 ^ nbits)))
  | none => s

end Sys2Proof.Machine
end

