-- ==== Sys2Proof/Machine/RampStep.lean ====
section
/-! DEFINITION. The four step operations, spec/41_ramp_step.md. Each is the shared actions of R110, R115
and R116 over its own new duty value. -/

namespace Sys2Proof.Machine

/-- STEP.UP, R111: the saturating rise. -/
def execStepUp (s : State) : Host.Outcome State Fault Refusal := .next (stepActions (riseTarget s) s)

/-- STEP.DOWN, R112: the saturating fall. -/
def execStepDown (s : State) : Host.Outcome State Fault Refusal := .next (stepActions (fallTarget s) s)

/-- STEP.STALL.UP, R113: no room to rise, so `d := DUTY`. -/
def execStepStallUp (s : State) : Host.Outcome State Fault Refusal := .next (stepActions s.duty s)

/-- STEP.STALL.DOWN, R114: no room to fall, so `d := DUTY`. -/
def execStepStallDown (s : State) : Host.Outcome State Fault Refusal := .next (stepActions s.duty s)

end Sys2Proof.Machine
end

