-- ==== Sys2Proof/Machine/SystemOps.lean ====
section
/-! DEFINITION. The system operations RESET and IDLE, spec/42_system_ops.md. -/

namespace Sys2Proof.Machine

/-- RESET, R140: the engine in its initial state, and `ThrWrite(LOWEST)`. -/
def execReset (s : State) : Host.Outcome State Fault Refusal := .next (resetActions s)

/-- IDLE, R141: a clock cycle without a tick changes nothing. -/
def execIdle (s : State) : Host.Outcome State Fault Refusal := .next s

end Sys2Proof.Machine
end

