-- ==== Sys2Proof/Machine/TickDivider.lean ====
section
/-! DEFINITION. The count tick, spec/40_tick_divider.md. -/

namespace Sys2Proof.Machine

/-- TICK.COUNT, R92: `DIV <- DIV + 1` and nothing else. -/
def execTickCount (s : State) : Host.Outcome State Fault Refusal := .next (s.setDiv (s.div + 1))

end Sys2Proof.Machine
end

