-- ==== Sys2Proof/Machine/Dispatch.lean ====
section
/-! DEFINITION. One arm per operation of spec/30_encoding.md R74. -/

namespace Sys2Proof.Machine

def exec (i : Instr) (s : State) : Host.Outcome State Fault Refusal :=
  match i with
  | .reset => Sys2Proof.Machine.execReset s
  | .idle => Sys2Proof.Machine.execIdle s
  | .tickCount => Sys2Proof.Machine.execTickCount s
  | .stepStallUp => Sys2Proof.Machine.execStepStallUp s
  | .stepUp => Sys2Proof.Machine.execStepUp s
  | .stepStallDown => Sys2Proof.Machine.execStepStallDown s
  | .stepDown => Sys2Proof.Machine.execStepDown s

end Sys2Proof.Machine
end

