-- ==== Sys2Proof/Machine/Step.lean ====
section
/-! DEFINITION. One clock edge of the whole machine. -/

namespace Sys2Proof.Machine

/-- One rising clock edge (spec/00_scope.md R17, spec/60_exceptions.md R162). An engine of an illegal
configuration has no meaning, and that is decided before any encoding is looked at (spec/30_encoding.md
R76, R152). Otherwise the operation the event word and the state select is performed, and then the
comparator makes its move and the event word is used up. -/
def step (s : State) : Host.Outcome State Fault Refusal :=
  match s.cfg.firstFailed with
  | some k => .refused (.illegalConfig k)
  | none =>
    match exec (selected s) s with
    | .next t => .next (afterOperation t)
    | .fault f => .fault f
    | .refused r => .refused r

/-- `s` with the operation of the table row whose bits are `w` selected at its next edge. There is no
fetch (spec/30_encoding.md R70): what selects an operation is the event word and the registers the row
tests, so those are what is set (log 12). -/
def State.withFetchWord (s : State) (nbits w : Nat) : State := placeWord s nbits w

end Sys2Proof.Machine
end

