-- ==== Sys2Proof/Machine/Ports.lean ====
section
/-! DEFINITION. What can be seen from outside: the output ports of the engine in the cycle before an edge
(spec/10_state.md R31, spec/20_memory.md R52), and the fraction of a carrier cycle the comparator keeps
its output active (spec/60_exceptions.md R166). -/

namespace Sys2Proof.Machine

/-- `thr_we` in the cycle of the coming edge, spec/30_encoding.md R80:
`sel[4] OR (sel[3] AND sel[2])`. -/
def thrWe (s : State) : Bool :=
  (selectWord s)[4] || ((selectWord s)[3] && (selectWord s)[2])

/-- `thr_data` in the cycle of the coming edge, R31: `DUTY'`, the value `DUTY` will have after the
operation of this cycle, also where `thr_we` is 0 (D22). -/
def thrData (s : State) : Nat :=
  match exec (selected s) s with
  | .next t => t.duty
  | .fault _ => s.duty
  | .refused _ => s.duty

/-- The fraction of its length for which a whole carrier cycle run with the present `THR_EFF` has the
output active, R64, R166. No fraction where `THR_EFF` is above `CARRIER_PERIOD`: the spec gives the
comparator no meaning there (U4; log 11). -/
def activeFraction (s : State) : Option Rat :=
  if s.thrEff ≤ s.cfg.carrierPeriod then some ((s.thrEff : Rat) / (s.cfg.carrierPeriod : Rat)) else none

end Sys2Proof.Machine
end

