-- ==== Sys2Proof/Safety.lean ====
section
/-! DEFINITION. The terms claims are stated in: the invariants of reachable states (spec/10_state.md R36 to
R40), reachability (spec/00_scope.md R19), the transition function written as one block
(spec/40_tick_divider.md R97), the closed form (R41), and the textual sequences of events
(spec/30_encoding.md R82, R83). The engine has no error state and no end of a run (R7, R150): a safe
run is one whose states meet `EngineInv`. -/

namespace Sys2Proof.Machine

/-- The state as the tuple `(DUTY, DIR, DIV, THR)`, R79. -/
abbrev Regs := Nat × Dir × Nat × Nat

/-- The tuple of R79. -/
def State.regs (s : State) : Regs := (s.duty, s.dir, s.div, s.thr)

/-- The coming edge is a step tick: a tick that finds `DIV ≥ T − 1`, R91. -/
abbrev IsStepTick (s : State) : Prop :=
  rstInput s = false ∧ tickInput s = true ∧ s.cfg.ticksPerStep - 1 ≤ s.div

/-- The lattice of R40. -/
abbrev OnLattice (s : State) : Prop :=
  match s.dir with
  | .rising => ∃ j, j < s.cfg.rampSteps ∧ s.duty = s.cfg.lowest + j * s.cfg.step
  | .falling => ∃ j, j < s.cfg.rampSteps ∧ s.duty = s.cfg.highest - j * s.cfg.step

/-- The invariants of spec/10_state.md section 4, under a legal configuration. -/
structure EngineInv (s : State) : Prop where
  /-- The configuration passed the checks of R152. -/
  legal : s.cfg.Legal
  /-- R36. -/
  floor : s.cfg.lowest ≤ s.duty
  /-- R36. -/
  ceiling : s.duty ≤ s.cfg.highest
  /-- R37. -/
  divRange : s.div ≤ s.cfg.ticksPerStep - 1
  /-- R38. -/
  roomUp : s.dir = .rising → s.duty < s.cfg.highest
  /-- R38. -/
  roomDown : s.dir = .falling → s.cfg.lowest < s.duty
  /-- R39. -/
  thrTracks : s.thr = s.duty
  /-- R40. -/
  lattice : OnLattice s

/-- Every register's value fits the register's width, spec/00_scope.md R11. -/
structure FitsRegisters (s : State) : Prop where
  duty : s.duty ≤ 2 ^ s.cfg.dutyWidth - 1
  div : s.div ≤ 2 ^ s.cfg.divWidth - 1
  thr : s.thr ≤ 2 ^ s.cfg.dutyWidth - 1
  thrEff : s.thrEff ≤ 2 ^ s.cfg.dutyWidth - 1

/-- What the comparator holds and what was written lies in the engine's range: the written values in
`LOWEST .. HIGHEST` (spec/20_memory.md R60), `THR_EFF` too, and `THR` the value of the most recent write
(R63 (c)). -/
structure OutputInv (s : State) : Prop where
  written : ∀ v ∈ s.trace, s.cfg.lowest ≤ v ∧ v ≤ s.cfg.highest
  lastWrite : s.trace.getLast? = some s.thr
  effective : s.cfg.lowest ≤ s.thrEff ∧ s.thrEff ≤ s.cfg.highest

/-- A reachable state, spec/00_scope.md R19: reached from RESET by any sequence of operations under a
legal configuration. The environment's whole choice is the queue of event words it starts with, and
`THR_EFF` may hold any value there (U7). -/
inductive Reachable : State → Prop where
  | start (c : Config) (h : c.Legal) (evs : List EventWord) (v : Nat) :
      Reachable { State.afterReset c with events := evs, thrEff := v }
  | next {s t : State} (h : Reachable s) (hs : step s = .next t) : Reachable t

/-- The transition and output function of R97, as the spec writes it in one block:
`(DUTY', DIR', DIV', THR'; thr_we, thr_data)`. -/
def transition (c : Config) (r : Regs) (rst tick : Bool) : Regs × Bool × Nat :=
  let (duty, dir, div, thr) := r
  if rst then ((c.lowest, .rising, 0, c.lowest), true, c.lowest)
  else if !tick then ((duty, dir, div, thr), false, duty)
  else if div < c.ticksPerStep - 1 then ((duty, dir, div + 1, thr), false, duty)
  else
    let d :=
      if dir = .falling ∧ duty > c.lowest then max c.lowest (duty - c.step)
      else if dir = .rising ∧ duty < c.highest then min c.highest (duty + c.step)
      else duty
    let r := if d = c.lowest then .rising else dir
    let r := if d = c.highest then .falling else r
    ((d, r, 0, d), true, d)

/-- `j` of R41 after `n` ticks: the step ticks done since the start of the breath. -/
def breathStep (c : Config) (n : Nat) : Nat := n / c.ticksPerStep % (2 * c.rampSteps)

/-- `DUTY` after RESET and `n` ticks, the closed form of R41. -/
def closedDuty (c : Config) (n : Nat) : Nat :=
  let j := breathStep c n
  if j = 0 then c.lowest
  else if j < c.rampSteps then c.lowest + j * c.step
  else if j = c.rampSteps then c.highest
  else c.highest - (j - c.rampSteps) * c.step

/-- `DIR` after RESET and `n` ticks, the closed form of R41. -/
def closedDir (c : Config) (n : Nat) : Dir :=
  if breathStep c n < c.rampSteps then .rising else .falling

/-- The registers after RESET and `n` ticks, the closed form of R41. -/
def closedRegs (c : Config) (n : Nat) : Regs :=
  (closedDuty c n, closedDir c n, n % c.ticksPerStep, closedDuty c n)

/-- The write trace after RESET and `n` ticks, R41: the reset write, then the values of `DUTY` after
step ticks `1 .. n / T`. -/
def closedTrace (c : Config) (n : Nat) : List Nat :=
  c.lowest :: (List.range (n / c.ticksPerStep)).map (fun k => closedDuty c ((k + 1) * c.ticksPerStep))

/-- The event `RESET` of R82. -/
def resetEvent : EventWord := 0b10#2

/-- The event `IDLE` of R82. -/
def idleEvent : EventWord := 0b00#2

/-- The event `TICK` of R82. -/
def tickEvent : EventWord := 0b01#2

/-- `TICK*n`, R83. -/
def ticks (n : Nat) : List EventWord := List.replicate n tickEvent

/-- `IDLE*n`, R83. -/
def idles (n : Nat) : List EventWord := List.replicate n idleEvent

/-- `STEPTICKS*k`, R83. -/
def stepTicks (c : Config) (k : Nat) : List EventWord := ticks (k * c.ticksPerStep)

/-- `RAMP`, R83. -/
def ramp (c : Config) : List EventWord := ticks (c.rampSteps * c.ticksPerStep)

/-- `BREATH`, R83. -/
def breath (c : Config) : List EventWord := ticks c.breathTicks

/-- No event of the sequence is a reset. -/
abbrev NoReset (evs : List EventWord) : Prop := ∀ ev ∈ evs, ev[1] = false

/-- The number of ticks in a sequence of events that holds no reset. -/
def tickTotal (evs : List EventWord) : Nat := evs.countP (fun ev => ev[0])

/-- The state with `evs` the coming events. -/
def State.withEvents (s : State) (evs : List EventWord) : State := { s with events := evs }

/-- `k` clock edges of the machine behind the host's interface. -/
def runEdges (k : Nat) (s : State) : Host.Outcome State Fault Refusal := Host.Core.run Sys2Proof.core k s

/-- What claims about the engine speak of (spec/00_scope.md R7): its registers, `THR`, the writes. -/
def State.engineView (s : State) : Config × Regs × List Nat := (s.cfg, s.regs, s.trace)

end Sys2Proof.Machine
end

