-- ==== Sys2Proof/Certificates/Slice0/Obligations.lean ====
section
/-! DEFINITION. The statements for the provers, in the order of spec/: configuration and reset, the seven
operations, the encodings, the ports, the invariants, what sequences of events do, the comparator. -/

open Sys2Proof Sys2Proof.Machine

/-! ### Configuration and reset -/

/-- R13, with the model's choice of `CARRIER_PERIOD`, `W` and `DW` (log 2): the reference configuration is
legal and has the derived constants R13 gives. -/
def Obligations.ReferenceConfigurationIsLegal : Prop :=
  Config.reference.Legal ∧ Config.reference.range = 900 ∧ Config.reference.rampSteps = 900 ∧
    Config.reference.breathTicks = 3600000 ∧ State.reset.cfg = Config.reference

/-- R33, R181: the four registers after RESET, for every configuration. The write trace with the reset
write in it is the model's ghost (log 7). -/
def Obligations.ResetStateHoldsSpecifiedValues : Prop :=
  (∀ c : Config, (State.afterReset c).regs = (c.lowest, .rising, 0, c.lowest) ∧ (State.afterReset c).cfg = c ∧
    (State.afterReset c).trace = [c.lowest]) ∧
  State.reset.regs = (100, .rising, 0, 100)

/-- R152: the engine is refused exactly when one of the six checks fails, whatever the rest of the state. That
the refusal names a check, and one that does fail, is the model's choice (log 10): R152's refusal has no
code. -/
def Obligations.IllegalConfigurationIsRefused : Prop :=
  ∀ s : State,
    ((∃ k, step s = .refused (.illegalConfig k)) ↔
      ¬(s.cfg.lowest < s.cfg.highest ∧ s.cfg.ticksPerStep ≥ 1 ∧ s.cfg.step ≥ 1 ∧
        s.cfg.highest ≤ s.cfg.carrierPeriod ∧ s.cfg.lowest ≥ 1 ∧
        (s.cfg.carrierPeriod ≤ 2 ^ s.cfg.dutyWidth - 1 ∧ s.cfg.ticksPerStep - 1 ≤ 2 ^ s.cfg.divWidth - 1))) ∧
    (∀ k, step s = .refused (.illegalConfig k) → k.passes s.cfg = false)

/-- R150: a legal engine's step returns a next state for every state and every event word, and no step ends in
a fault. -/
def Obligations.EveryEdgeAnswersNext : Prop :=
  (∀ s : State, s.cfg.Legal → ∃ t, step s = .next t) ∧ (∀ (s : State) (f : Fault), step s ≠ .fault f)

/-- R187: no step changes the constants. -/
def Obligations.StepKeepsConstants : Prop :=
  ∀ s t : State, step s = .next t → t.cfg = s.cfg ∧ t.cfg.Legal

/-! ### The seven operations -/

/-- R140: RESET completes from every state, writing the four registers and the trace and nothing else; it is
selected whenever `rst = 1`, with `thr_we = 1` and `thr_data = LOWEST` in its cycle. -/
def Obligations.ResetInitialisesEngine : Prop :=
  ∀ s : State,
    exec .reset s = .next { s with
      duty := s.cfg.lowest, dir := .rising, div := 0, thr := s.cfg.lowest, trace := s.trace ++ [s.cfg.lowest] } ∧
    (rstInput s = true → selected s = .reset ∧ thrWe s = true ∧ thrData s = s.cfg.lowest)

/-- R158: with `rst = 1` and `tick = 1` at one edge the operation is RESET, and the tick leaves no trace in
the state after. -/
def Obligations.ResetDiscardsTick : Prop :=
  ∀ s : State, selected (s.present 0b11#2) = .reset ∧ step (s.present 0b11#2) = step (s.present 0b10#2)

/-- R141: IDLE completes from every state and changes nothing; it is selected with `rst = 0` and
`tick = 0`, with `thr_we = 0` and `thr_data = DUTY`. -/
def Obligations.IdleChangesNothing : Prop :=
  ∀ s : State, exec .idle s = .next s ∧
    (rstInput s = false → tickInput s = false → selected s = .idle ∧ thrWe s = false ∧ thrData s = s.duty)

/-- R92: TICK.COUNT completes from every state (where it is not selected, by the model's choice, log 9) and
increments `DIV` alone; it is selected by a tick that
finds `DIV < T − 1`, where the result fits `DW` bits, and never with `T = 1`. -/
def Obligations.TickCountAdvancesDivider : Prop :=
  ∀ s : State, exec .tickCount s = .next { s with div := s.div + 1 } ∧
    (s.cfg.Legal → rstInput s = false → tickInput s = true → s.div < s.cfg.ticksPerStep - 1 →
      selected s = .tickCount ∧ thrWe s = false ∧ thrData s = s.duty ∧
        s.div + 1 ≤ s.cfg.ticksPerStep - 1 ∧ s.div + 1 ≤ 2 ^ s.cfg.divWidth - 1) ∧
    (s.cfg.ticksPerStep = 1 → selected s ≠ .tickCount)

/-- R111: STEP.UP, where it is selected: the saturating rise, the flip exactly on arrival at `HIGHEST`, the
write; `DUTY` grows and fits `W` bits. -/
def Obligations.StepUpSaturatesAndFlips : Prop :=
  ∀ s : State, s.cfg.Legal → rstInput s = false → tickInput s = true → s.cfg.ticksPerStep - 1 ≤ s.div →
    s.dir = .rising → s.duty < s.cfg.highest →
    selected s = .stepUp ∧
    exec .stepUp s = .next { s with
      div := 0, duty := min s.cfg.highest (s.duty + s.cfg.step),
      dir := if min s.cfg.highest (s.duty + s.cfg.step) = s.cfg.highest then .falling else .rising,
      thr := min s.cfg.highest (s.duty + s.cfg.step),
      trace := s.trace ++ [min s.cfg.highest (s.duty + s.cfg.step)] } ∧
    s.duty < min s.cfg.highest (s.duty + s.cfg.step) ∧
    min s.cfg.highest (s.duty + s.cfg.step) ≤ 2 ^ s.cfg.dutyWidth - 1 ∧
    thrWe s = true ∧ thrData s = min s.cfg.highest (s.duty + s.cfg.step)

/-- R112: STEP.DOWN, where it is selected: the saturating fall, the flip exactly on arrival at `LOWEST`, the
write; `DUTY` shrinks and is never 0. -/
def Obligations.StepDownSaturatesAndFlips : Prop :=
  ∀ s : State, s.cfg.Legal → rstInput s = false → tickInput s = true → s.cfg.ticksPerStep - 1 ≤ s.div →
    s.dir = .falling → s.cfg.lowest < s.duty →
    selected s = .stepDown ∧
    exec .stepDown s = .next { s with
      div := 0, duty := max s.cfg.lowest (s.duty - s.cfg.step),
      dir := if max s.cfg.lowest (s.duty - s.cfg.step) = s.cfg.lowest then .rising else .falling,
      thr := max s.cfg.lowest (s.duty - s.cfg.step),
      trace := s.trace ++ [max s.cfg.lowest (s.duty - s.cfg.step)] } ∧
    max s.cfg.lowest (s.duty - s.cfg.step) < s.duty ∧
    1 ≤ max s.cfg.lowest (s.duty - s.cfg.step) ∧
    thrWe s = true ∧ thrData s = max s.cfg.lowest (s.duty - s.cfg.step)

/-- R113: STEP.STALL.UP, where it is selected: no move, `DIR` becomes FALLING exactly at `HIGHEST`, and the
value is written again. -/
def Obligations.StallUpRewritesAndFlipsAtCeiling : Prop :=
  ∀ s : State, s.cfg.Legal → rstInput s = false → tickInput s = true → s.cfg.ticksPerStep - 1 ≤ s.div →
    s.dir = .rising → s.cfg.highest ≤ s.duty →
    selected s = .stepStallUp ∧
    exec .stepStallUp s = .next { s with
      div := 0, dir := if s.duty = s.cfg.highest then .falling else .rising,
      thr := s.duty, trace := s.trace ++ [s.duty] } ∧
    thrWe s = true ∧ thrData s = s.duty

/-- R114: STEP.STALL.DOWN, where it is selected: no move, `DIR` becomes RISING exactly at `LOWEST`, and the
value is written again. -/
def Obligations.StallDownRewritesAndFlipsAtFloor : Prop :=
  ∀ s : State, s.cfg.Legal → rstInput s = false → tickInput s = true → s.cfg.ticksPerStep - 1 ≤ s.div →
    s.dir = .falling → s.duty ≤ s.cfg.lowest →
    selected s = .stepStallDown ∧
    exec .stepStallDown s = .next { s with
      div := 0, dir := if s.duty = s.cfg.lowest then .rising else .falling,
      thr := s.duty, trace := s.trace ++ [s.duty] } ∧
    thrWe s = true ∧ thrData s = s.duty

/-- R110, R115, R116: what every step operation does with the new duty value, in every state that selects it,
reachable or not: the divider is cleared, the new value is tested twice in the rule's order, and it is
written to `THR` through the port. -/
def Obligations.StepOperationsShareActions : Prop :=
  ∀ (i : Instr) (s : State), i = .stepUp ∨ i = .stepDown ∨ i = .stepStallUp ∨ i = .stepStallDown →
    selected s = i →
    ∃ t, exec i s = .next t ∧ t.div = 0 ∧
      t.dir = (let r := if t.duty = s.cfg.lowest then Dir.rising else s.dir
               if t.duty = s.cfg.highest then Dir.falling else r) ∧
      t.thr = t.duty ∧ t.trace = s.trace ++ [t.duty] ∧ thrWe s = true ∧ thrData s = t.duty

/-- R15, R20: the frame of each operation. None touches the constants, `THR_EFF`, the events or the edge
counter; IDLE touches nothing, TICK.COUNT nothing but `DIV`, and the stalls leave `DUTY` alone. -/
def Obligations.OperationsLeaveTheRestAlone : Prop :=
  ∀ (i : Instr) (s t : State), exec i s = .next t →
    t.cfg = s.cfg ∧ t.thrEff = s.thrEff ∧ t.events = s.events ∧ t.edges = s.edges ∧
    (i = .idle → t = s) ∧
    (i = .tickCount → t.duty = s.duty ∧ t.dir = s.dir ∧ t.thr = s.thr ∧ t.trace = s.trace) ∧
    (i = .stepStallUp ∨ i = .stepStallDown → t.duty = s.duty)

/-! ### Selection, decoding and encoding -/

/-- R72, R90: which operation each event word and state selects; a tick is exactly one of five operations. -/
def Obligations.EventAndStateSelectOperation : Prop :=
  ∀ s : State,
    (presented s = 0b10#2 ∨ presented s = 0b11#2 → selected s = .reset) ∧
    (presented s = 0b00#2 → selected s = .idle) ∧
    (presented s = 0b01#2 → selected s =
      if s.div < s.cfg.ticksPerStep - 1 then Instr.tickCount
      else if s.dir = .falling ∧ s.cfg.lowest < s.duty then Instr.stepDown
      else if s.dir = .rising ∧ s.duty < s.cfg.highest then Instr.stepUp
      else if s.dir = .rising then Instr.stepStallUp
      else Instr.stepStallDown)

/-- A step runs the operation that the select word decodes to (R17, R73, R74); around it the step adds the
comparator's move (free values, log 6), uses up the event word and counts the edge. -/
def Obligations.StepRunsDecodedOperation : Prop :=
  ∀ s t : State, s.cfg.Legal → exec (decode (selectWord s)) s = .next t →
    step s = .next { t with
      thrEff := if Config.carrierStarts s.edges || Config.takesEffectEarly s.edges then t.thr else s.thrEff,
      events := s.events.tail, edges := s.edges + 1 }

/-- R74: the seven rows, each with the match and the mask the table prints, on every select word however many
bits of 5 or more the row is given in. -/
def Obligations.DecodeMatchesOperationTable : Prop :=
  ∀ nbits w : Nat, 5 ≤ nbits → w < 32 →
    (decodeTableWord nbits w = some .reset ↔ w &&& 0x10 = 0x10) ∧
    (decodeTableWord nbits w = some .idle ↔ w &&& 0x18 = 0x00) ∧
    (decodeTableWord nbits w = some .tickCount ↔ w &&& 0x1C = 0x08) ∧
    (decodeTableWord nbits w = some .stepUp ↔ w &&& 0x1F = 0x0D) ∧
    (decodeTableWord nbits w = some .stepDown ↔ w &&& 0x1F = 0x0F) ∧
    (decodeTableWord nbits w = some .stepStallUp ↔ w &&& 0x1F = 0x0C) ∧
    (decodeTableWord nbits w = some .stepStallDown ↔ w &&& 0x1F = 0x0E)

/-- Decode and encode agree in both directions: every encoding of an operation, whatever stands in the bits its
row does not test, decodes to it, and every select word is the encoding, with its own untested bits, of
the operation it decodes to. -/
def Obligations.DecodeEncodeAgree : Prop :=
  (∀ (i : Instr) (fill : SelectWord) (nbits : Nat), 5 ≤ nbits →
    decode (encodeWith i fill) = i ∧ decodeTableWord nbits (encodeWith i fill).toNat = some i) ∧
  (∀ sel : SelectWord, encodeWith (decode sel) sel = sel)

/-- A placed table word is the operation the next step runs, from every legal state (R73, R74; the placing is
the model's, log 12). TICK.COUNT needs `T ≥ 2` (R92 (b)). -/
def Obligations.PlacedWordRunsNext : Prop :=
  ∀ (s t : State) (nbits w : Nat) (i : Instr), s.cfg.Legal → decodeTableWord nbits w = some i →
    (i = .tickCount → 2 ≤ s.cfg.ticksPerStep) → exec i (s.withFetchWord nbits w) = .next t →
    selected (s.withFetchWord nbits w) = i ∧ step (s.withFetchWord nbits w) = .next (afterOperation t)

/-- R74: one select word of each row, written out bit by bit; a byte above 31 is no select word (log 12). -/
def Obligations.DecodeReadsWrittenOutWords : Prop :=
  decodeTableWord 8 0b00010000 = some .reset ∧ decodeTableWord 8 0b00011101 = some .reset ∧
  decodeTableWord 8 0b00000111 = some .idle ∧ decodeTableWord 8 0b00001011 = some .tickCount ∧
  decodeTableWord 8 0b00001100 = some .stepStallUp ∧ decodeTableWord 8 0b00001101 = some .stepUp ∧
  decodeTableWord 8 0b00001110 = some .stepStallDown ∧ decodeTableWord 8 0b00001111 = some .stepDown ∧
  decodeTableWord 8 0b00101101 = none

/-! ### The ports -/

/-- R80: `thr_we` as a function of the select word, when it is 1, and `thr_data = DUTY'` always. -/
def Obligations.OutputsFollowSelectWord : Prop :=
  ∀ s : State,
    thrWe s = ((selectWord s)[4] || ((selectWord s)[3] && (selectWord s)[2])) ∧
    (thrWe s = true ↔ selected s = .reset ∨ selected s = .stepUp ∨ selected s = .stepDown ∨
      selected s = .stepStallUp ∨ selected s = .stepStallDown) ∧
    (thrWe s = false ↔ selected s = .idle ∨ selected s = .tickCount) ∧
    (∀ t, step s = .next t → thrData s = t.duty)

/-- R52: in a cycle with `thr_we = 1` the value on `thr_data` is captured by `THR` and appended to the write
trace at the edge that ends the cycle; otherwise `THR` and the trace keep their values and `thr_data`
shows `DUTY`. -/
def Obligations.ThresholdCapturesPort : Prop :=
  ∀ s t : State, step s = .next t →
    thrData s = t.duty ∧
    (thrWe s = true → t.thr = thrData s ∧ t.trace = s.trace ++ [thrData s]) ∧
    (thrWe s = false → t.thr = s.thr ∧ t.trace = s.trace ∧ thrData s = s.duty)

/-- R97: every step of a legal engine does what the spec's one-block transition function says, registers and
outputs. -/
def Obligations.StepRefinesTransitionFunction : Prop :=
  ∀ s : State, s.cfg.Legal → ∃ t, step s = .next t ∧
    (t.regs, thrWe s, thrData s) = transition s.cfg s.regs (rstInput s) (tickInput s)

/-- R20: which operations write which register, over all steps: a register that changed was written by an
operation the table of R20 names. -/
def Obligations.RegistersChangeOnlyByTheirWriters : Prop :=
  ∀ s t : State, step s = .next t →
    (t.duty ≠ s.duty → selected s = .reset ∨ selected s = .stepUp ∨ selected s = .stepDown) ∧
    (t.dir ≠ s.dir ∨ t.thr ≠ s.thr ∨ t.trace ≠ s.trace → selected s ≠ .idle ∧ selected s ≠ .tickCount) ∧
    (t.div ≠ s.div → selected s ≠ .idle)

/-! ### Invariants -/

/-- R33, R36 to R40: every state an execution starts in meets the engine's invariants, whatever the
environment presents and whatever `THR_EFF` holds (U7); with `THR_EFF` in range it meets the invariants of
the outputs and the widths too. The trace is the model's ghost (log 7). -/
def Obligations.InvariantsHoldAfterReset : Prop :=
  (∀ (c : Config) (evs : List EventWord) (v : Nat), c.Legal →
    EngineInv { State.afterReset c with events := evs, thrEff := v } ∧
    (c.lowest ≤ v ∧ v ≤ c.highest →
      OutputInv { State.afterReset c with events := evs, thrEff := v } ∧
      FitsRegisters { State.afterReset c with events := evs, thrEff := v })) ∧
  EngineInv State.reset

/-- R36 to R40: every step keeps the engine's invariants. -/
def Obligations.StepKeepsEngineInv : Prop :=
  ∀ s t : State, EngineInv s → step s = .next t → EngineInv t

/-- R36, R37, R38, R39, R40: every reachable state, written out; no stall is ever selected from one, and `DUTY`
is the value last written. -/
def Obligations.ReachableStatesMeetInvariants : Prop :=
  ∀ s : State, Reachable s →
    (s.cfg.lowest ≤ s.duty ∧ s.duty ≤ s.cfg.highest) ∧
    s.div ≤ s.cfg.ticksPerStep - 1 ∧
    ((s.dir = .rising → s.duty < s.cfg.highest) ∧ (s.dir = .falling → s.duty > s.cfg.lowest) ∧
      selected s ≠ .stepStallUp ∧ selected s ≠ .stepStallDown) ∧
    (s.thr = s.duty ∧ s.trace.getLast? = some s.duty) ∧
    ((s.dir = .rising → ∃ j, j < s.cfg.rampSteps ∧ s.duty = s.cfg.lowest + j * s.cfg.step) ∧
      (s.dir = .falling → ∃ j, j < s.cfg.rampSteps ∧ s.duty + j * s.cfg.step = s.cfg.highest))

/-- R125: every step keeps every register's value inside the register's width, with the bounds the rule gives
for each operation. -/
def Obligations.StepKeepsRegistersInWidth : Prop :=
  ∀ s t : State, FitsRegisters s → step s = .next t →
    FitsRegisters t ∧
    (selected s = .tickCount → t.div = s.div + 1 ∧ t.div ≤ s.cfg.ticksPerStep - 1) ∧
    (selected s = .stepUp → t.duty ≤ s.cfg.highest) ∧
    (selected s = .stepDown → t.duty ≤ s.duty) ∧
    (selected s = .stepStallUp ∨ selected s = .stepStallDown → t.duty = s.duty)

/-- R60, R63 (c): every step keeps the written values in `LOWEST .. HIGHEST` and `THR` the value of the most
recent write; `THR_EFF` stays in that range too, whatever the comparator's free values (log 6). -/
def Obligations.StepKeepsOutputInv : Prop :=
  ∀ s t : State, EngineInv s → OutputInv s → step s = .next t → OutputInv t

/-- R93: without a reset, an edge that is no step tick leaves `DUTY`, `DIR` and `THR` unchanged; the tick that
raises `DIV` to `T − 1` is such an edge, and the tick that finds it there is a step tick. -/
def Obligations.StepGating : Prop :=
  ∀ s t : State, step s = .next t → rstInput s = false →
    (¬IsStepTick s → t.duty = s.duty ∧ t.dir = s.dir ∧ t.thr = s.thr) ∧
    (tickInput s = true → s.div + 1 = s.cfg.ticksPerStep - 1 →
      ¬IsStepTick s ∧ t.div = s.cfg.ticksPerStep - 1) ∧
    (tickInput s = true → s.div = s.cfg.ticksPerStep - 1 → IsStepTick s ∧ t.div = 0)

/-- R96: a tick that finds `DIV` above `T − 1` is a step tick and clears it; and once in range `DIV` stays in
range. -/
def Obligations.DividerReturnsToRange : Prop :=
  (∀ s : State, s.cfg.Legal → rstInput s = false → tickInput s = true → s.cfg.ticksPerStep - 1 < s.div →
    IsStepTick s ∧ ∃ t, step s = .next t ∧ t.div = 0) ∧
  (∀ s t : State, step s = .next t → s.div ≤ s.cfg.ticksPerStep - 1 → t.div ≤ t.cfg.ticksPerStep - 1)

/-- From R121 and R36: the saturating moves computed without wrapping, where STEP.UP and STEP.DOWN are selected;
and from a duty value in range the unsaturated result lies strictly between the boundaries. R121 gives that
last clause without the range, but outside it, which no run reaches (R36), the clause fails (vector V35). -/
def Obligations.WrapFreeMovesAgree : Prop :=
  ∀ s : State, s.cfg.Legal →
    (selected s = .stepUp → ∃ t, exec .stepUp s = .next t ∧
      t.duty = (if s.cfg.highest - s.duty ≤ s.cfg.step then s.cfg.highest else s.duty + s.cfg.step) ∧
      (s.cfg.lowest ≤ s.duty → ¬s.cfg.highest - s.duty ≤ s.cfg.step →
        s.cfg.lowest < t.duty ∧ t.duty < s.cfg.highest)) ∧
    (selected s = .stepDown → ∃ t, exec .stepDown s = .next t ∧
      t.duty = (if s.duty - s.cfg.lowest ≤ s.cfg.step then s.cfg.lowest else s.duty - s.cfg.step) ∧
      (s.duty ≤ s.cfg.highest → ¬s.duty - s.cfg.lowest ≤ s.cfg.step →
        s.cfg.lowest < t.duty ∧ t.duty < s.cfg.highest))

/-- R122: if `STEP` divides `RANGE`, the selected moves are exactly `DUTY + STEP` and `DUTY − STEP`, and neither
bound binds, in every state that meets the invariants. -/
def Obligations.SaturatingMovesAgreeWithLiteral : Prop :=
  ∀ s : State, EngineInv s → s.cfg.step ∣ s.cfg.highest - s.cfg.lowest →
    (selected s = .stepUp → s.duty + s.cfg.step ≤ s.cfg.highest ∧
      ∃ t, exec .stepUp s = .next t ∧ t.duty = s.duty + s.cfg.step) ∧
    (selected s = .stepDown → s.cfg.lowest + s.cfg.step ≤ s.duty ∧
      ∃ t, exec .stepDown s = .next t ∧ t.duty + s.cfg.step = s.duty)

/-- R124: the direction flips exactly on the edge on which `DUTY` arrives at a boundary, and the flip and the
arrival are one edge. -/
def Obligations.DirectionFlipsExactlyOnArrival : Prop :=
  ∀ s t : State, EngineInv s → step s = .next t → rstInput s = false →
    (s.dir = .rising → (t.dir = .falling ↔ t.duty = s.cfg.highest)) ∧
    (s.dir = .falling → (t.dir = .rising ↔ t.duty = s.cfg.lowest)) ∧
    (t.dir ≠ s.dir → t.duty ≠ s.duty) ∧
    ¬(t.duty = s.cfg.highest ∧ t.dir = .rising) ∧ ¬(t.duty = s.cfg.lowest ∧ t.dir = .falling)

/-- R126, R127: in every state that meets the invariants a step tick finds `DIV = T − 1`, selects STEP.UP or
STEP.DOWN by the direction, and changes `DUTY` and `THR`. -/
def Obligations.EveryStepTickMovesDuty : Prop :=
  ∀ s : State, EngineInv s → IsStepTick s →
    s.div = s.cfg.ticksPerStep - 1 ∧
    (s.dir = .rising → selected s = .stepUp) ∧ (s.dir = .falling → selected s = .stepDown) ∧
    ∃ t, step s = .next t ∧ t.duty ≠ s.duty ∧ t.thr ≠ s.thr

/-- R113 (b), R114 (b), R140 (e): above the ceiling and rising, or below the floor and falling, no edge without
a reset changes `DUTY` or `DIR`, and a reset leaves the reset registers. -/
def Obligations.FrozenUntilReset : Prop :=
  ∀ s t : State, (s.dir = .rising ∧ s.cfg.highest < s.duty) ∨ (s.dir = .falling ∧ s.duty < s.cfg.lowest) →
    step s = .next t →
    (rstInput s = false → t.duty = s.duty ∧ t.dir = s.dir) ∧
    (rstInput s = true → t.regs = (s.cfg.lowest, .rising, 0, s.cfg.lowest))

/-! ### Sequences of events -/

/-- R41, R95: one edge moves the registers along the closed form: by one place for a tick, by none for an idle
cycle, back to the start for a reset. -/
def Obligations.StepFollowsClosedForm : Prop :=
  ∀ (s t : State) (n : Nat), s.regs = closedRegs s.cfg n → step s = .next t →
    t.regs = closedRegs t.cfg (if rstInput s then 0 else if tickInput s then n + 1 else n)

/-- R41: after RESET and `n` ticks, with any idle cycles among them, the registers and the write trace are the
closed form's, and the closed form has period `BREATH`. -/
def Obligations.ClosedFormAfterTicks : Prop :=
  ∀ (c : Config) (evs : List EventWord), c.Legal → NoReset evs →
    (∃ t, runEdges evs.length ((State.afterReset c).withEvents evs) = .next t ∧
      t.regs = closedRegs c (tickTotal evs) ∧ t.trace = closedTrace c (tickTotal evs)) ∧
    closedRegs c (tickTotal evs + 2 * c.rampSteps * c.ticksPerStep) = closedRegs c (tickTotal evs)

/-- R94: after RESET and `n` ticks `DIV = n mod T`, and the next tick, number `n + 1`, is a step tick exactly
when `(n + 1) mod T = 0`. -/
def Obligations.StepTickSpacing : Prop :=
  ∀ (c : Config) (evs : List EventWord), c.Legal → NoReset evs →
    ∃ t, runEdges evs.length ((State.afterReset c).withEvents evs) = .next t ∧
      t.div = tickTotal evs % c.ticksPerStep ∧
      (IsStepTick (t.withEvents [tickEvent]) ↔ (tickTotal evs + 1) % c.ticksPerStep = 0)

/-- R83, R123: one whole breath of ticks from any state that meets the invariants returns the registers to
what they were. -/
def Obligations.BreathReturnsRegisters : Prop :=
  ∀ s : State, EngineInv s →
    ∃ t, runEdges s.cfg.breathTicks (s.withEvents (breath s.cfg)) = .next t ∧ t.regs = s.regs

/-- R83, R118: one ramp of ticks, started at a boundary with `DIV = 0`, ends at the other boundary with the
direction reversed. -/
def Obligations.RampReachesOtherBoundary : Prop :=
  ∀ s : State, EngineInv s → s.div = 0 →
    ((s.duty = s.cfg.lowest ∧ s.dir = .rising →
      ∃ t, runEdges (ramp s.cfg).length (s.withEvents (ramp s.cfg)) = .next t ∧
        t.regs = (s.cfg.highest, .falling, 0, s.cfg.highest)) ∧
    (s.duty = s.cfg.highest ∧ s.dir = .falling →
      ∃ t, runEdges (ramp s.cfg).length (s.withEvents (ramp s.cfg)) = .next t ∧
        t.regs = (s.cfg.lowest, .rising, 0, s.cfg.lowest)))

/-- R128: from RESET, `HIGHEST` is first reached at tick `N · T` and the reset registers are first back at tick
`2 · N · T`; and `DUTY` keeps its value from one multiple of `T` ticks to the next. -/
def Obligations.FirstArrivalAndReturn : Prop :=
  ∀ (c : Config) (evs : List EventWord), c.Legal → NoReset evs →
    ∃ t, runEdges evs.length ((State.afterReset c).withEvents evs) = .next t ∧
      (tickTotal evs < c.rampSteps * c.ticksPerStep → t.duty < c.highest) ∧
      (tickTotal evs = c.rampSteps * c.ticksPerStep → t.duty = c.highest ∧ t.dir = .falling) ∧
      (0 < tickTotal evs → tickTotal evs < 2 * c.rampSteps * c.ticksPerStep →
        t.regs ≠ (c.lowest, .rising, 0, c.lowest)) ∧
      (tickTotal evs = 2 * c.rampSteps * c.ticksPerStep → t.regs = (c.lowest, .rising, 0, c.lowest)) ∧
      t.duty = closedDuty c (tickTotal evs / c.ticksPerStep * c.ticksPerStep)

/-- R95, R141: an idle cycle put anywhere into a sequence of events changes neither the registers nor the
write trace at its end, from every legal state. -/
def Obligations.IdleCyclesAreTransparent : Prop :=
  ∀ (s : State) (pre post : List EventWord), s.cfg.Legal →
    ∃ t u, runEdges (pre ++ post).length (s.withEvents (pre ++ post)) = .next t ∧
      runEdges (pre ++ idleEvent :: post).length (s.withEvents (pre ++ idleEvent :: post)) = .next u ∧
      t.engineView = u.engineView

/-! ### The comparator -/

/-- R162 (3), R165: nothing the comparator holds or does reaches the engine: two states that differ in
`THR_EFF` and the edge counter alone step to states with the same registers, `THR` and writes. -/
def Obligations.ComparatorNeverReachesEngine : Prop :=
  ∀ s s' t : State, s.engineView = s'.engineView → s.events = s'.events → step s = .next t →
    ∃ t', step s' = .next t' ∧ t.engineView = t'.engineView ∧ t.events = t'.events

/-- R25, R64, with the comparator's moments as free values (log 6): where a carrier cycle starts after an edge
the threshold written last is in effect, and otherwise `THR_EFF` is that threshold or what it was. -/
def Obligations.ThresholdTakesEffectByNextCarrierCycle : Prop :=
  ∀ s t : State, step s = .next t →
    (Config.carrierStarts s.edges = true → t.thrEff = t.thr) ∧ (t.thrEff = t.thr ∨ t.thrEff = s.thrEff)

/-- R64, R166: for every effective threshold up to `CARRIER_PERIOD`, those that `THR_EFF` may hold before the
reset write takes effect (R33, U7) among them, the active fraction is `THR_EFF / CARRIER_PERIOD`, between 0
and 1; in the engine's range it lies between its values at the floor and at the ceiling and is never 0;
above `CARRIER_PERIOD` the model gives no fraction, which is its choice (U4, log 11). -/
def Obligations.ActiveFractionIsNeverZero : Prop :=
  ∀ s : State, s.cfg.Legal →
    (s.thrEff ≤ s.cfg.carrierPeriod → ∃ q : Rat, activeFraction s = some q ∧
      q * (s.cfg.carrierPeriod : Rat) = (s.thrEff : Rat) ∧ 0 ≤ q ∧ q ≤ 1) ∧
    (s.cfg.lowest ≤ s.thrEff ∧ s.thrEff ≤ s.cfg.highest → ∃ q : Rat, activeFraction s = some q ∧
      (s.cfg.lowest : Rat) / (s.cfg.carrierPeriod : Rat) ≤ q ∧
      q ≤ (s.cfg.highest : Rat) / (s.cfg.carrierPeriod : Rat) ∧ 0 < q) ∧
    (s.cfg.carrierPeriod < s.thrEff → activeFraction s = none)
end

