-- ==== Sys2Proof/Laws/Config.lean ====
section
/-! SUPPORT. The checks of spec/60_exceptions.md R152 and legality say the same. -/

namespace Sys2Proof

/-- No check fails exactly when the configuration is legal. -/
theorem Config.firstFailed_eq_none_iff (c : Config) : c.firstFailed = none ↔ c.Legal := by
  simp only [Config.firstFailed, ConfigCheck.all, List.find?_eq_none, List.mem_cons, List.not_mem_nil, or_false,
    forall_eq_or_imp, forall_eq, ConfigCheck.passes, Config.Legal, Bool.not_eq_true, Bool.not_eq_false',
    decide_eq_true_eq]

/-- The check that is named does fail. -/
theorem Config.firstFailed_fails {c : Config} {k : ConfigCheck} (h : c.firstFailed = some k) :
    k.passes c = false := by
  simpa using List.find?_some h

end Sys2Proof
end

