-- ==== Sys2Proof/Laws/State.lean ====
section
/-! SUPPORT. One lemma per field of State and per update of it, so that no proof unfolds a record update. -/

namespace Sys2Proof.Machine

/-! ### `State.setDuty` -/

@[simp] theorem State.setDuty_cfg (s : State) (v : Nat) : (s.setDuty v).cfg = s.cfg := rfl
@[simp] theorem State.setDuty_duty (s : State) (v : Nat) : (s.setDuty v).duty = v := rfl
@[simp] theorem State.setDuty_dir (s : State) (v : Nat) : (s.setDuty v).dir = s.dir := rfl
@[simp] theorem State.setDuty_div (s : State) (v : Nat) : (s.setDuty v).div = s.div := rfl
@[simp] theorem State.setDuty_thr (s : State) (v : Nat) : (s.setDuty v).thr = s.thr := rfl
@[simp] theorem State.setDuty_thrEff (s : State) (v : Nat) : (s.setDuty v).thrEff = s.thrEff := rfl
@[simp] theorem State.setDuty_trace (s : State) (v : Nat) : (s.setDuty v).trace = s.trace := rfl
@[simp] theorem State.setDuty_events (s : State) (v : Nat) : (s.setDuty v).events = s.events := rfl
@[simp] theorem State.setDuty_edges (s : State) (v : Nat) : (s.setDuty v).edges = s.edges := rfl

/-! ### `State.setDir` -/

@[simp] theorem State.setDir_cfg (s : State) (r : Dir) : (s.setDir r).cfg = s.cfg := rfl
@[simp] theorem State.setDir_duty (s : State) (r : Dir) : (s.setDir r).duty = s.duty := rfl
@[simp] theorem State.setDir_dir (s : State) (r : Dir) : (s.setDir r).dir = r := rfl
@[simp] theorem State.setDir_div (s : State) (r : Dir) : (s.setDir r).div = s.div := rfl
@[simp] theorem State.setDir_thr (s : State) (r : Dir) : (s.setDir r).thr = s.thr := rfl
@[simp] theorem State.setDir_thrEff (s : State) (r : Dir) : (s.setDir r).thrEff = s.thrEff := rfl
@[simp] theorem State.setDir_trace (s : State) (r : Dir) : (s.setDir r).trace = s.trace := rfl
@[simp] theorem State.setDir_events (s : State) (r : Dir) : (s.setDir r).events = s.events := rfl
@[simp] theorem State.setDir_edges (s : State) (r : Dir) : (s.setDir r).edges = s.edges := rfl

/-! ### `State.setDiv` -/

@[simp] theorem State.setDiv_cfg (s : State) (v : Nat) : (s.setDiv v).cfg = s.cfg := rfl
@[simp] theorem State.setDiv_duty (s : State) (v : Nat) : (s.setDiv v).duty = s.duty := rfl
@[simp] theorem State.setDiv_dir (s : State) (v : Nat) : (s.setDiv v).dir = s.dir := rfl
@[simp] theorem State.setDiv_div (s : State) (v : Nat) : (s.setDiv v).div = v := rfl
@[simp] theorem State.setDiv_thr (s : State) (v : Nat) : (s.setDiv v).thr = s.thr := rfl
@[simp] theorem State.setDiv_thrEff (s : State) (v : Nat) : (s.setDiv v).thrEff = s.thrEff := rfl
@[simp] theorem State.setDiv_trace (s : State) (v : Nat) : (s.setDiv v).trace = s.trace := rfl
@[simp] theorem State.setDiv_events (s : State) (v : Nat) : (s.setDiv v).events = s.events := rfl
@[simp] theorem State.setDiv_edges (s : State) (v : Nat) : (s.setDiv v).edges = s.edges := rfl

/-! ### `State.thrWrite` -/

@[simp] theorem State.thrWrite_cfg (s : State) (v : Nat) : (s.thrWrite v).cfg = s.cfg := rfl
@[simp] theorem State.thrWrite_duty (s : State) (v : Nat) : (s.thrWrite v).duty = s.duty := rfl
@[simp] theorem State.thrWrite_dir (s : State) (v : Nat) : (s.thrWrite v).dir = s.dir := rfl
@[simp] theorem State.thrWrite_div (s : State) (v : Nat) : (s.thrWrite v).div = s.div := rfl
@[simp] theorem State.thrWrite_thr (s : State) (v : Nat) : (s.thrWrite v).thr = v := rfl
@[simp] theorem State.thrWrite_thrEff (s : State) (v : Nat) : (s.thrWrite v).thrEff = s.thrEff := rfl
@[simp] theorem State.thrWrite_trace (s : State) (v : Nat) : (s.thrWrite v).trace = s.trace ++ [v] := rfl
@[simp] theorem State.thrWrite_events (s : State) (v : Nat) : (s.thrWrite v).events = s.events := rfl
@[simp] theorem State.thrWrite_edges (s : State) (v : Nat) : (s.thrWrite v).edges = s.edges := rfl

/-! ### `State.setThrEff` -/

@[simp] theorem State.setThrEff_cfg (s : State) (v : Nat) : (s.setThrEff v).cfg = s.cfg := rfl
@[simp] theorem State.setThrEff_duty (s : State) (v : Nat) : (s.setThrEff v).duty = s.duty := rfl
@[simp] theorem State.setThrEff_dir (s : State) (v : Nat) : (s.setThrEff v).dir = s.dir := rfl
@[simp] theorem State.setThrEff_div (s : State) (v : Nat) : (s.setThrEff v).div = s.div := rfl
@[simp] theorem State.setThrEff_thr (s : State) (v : Nat) : (s.setThrEff v).thr = s.thr := rfl
@[simp] theorem State.setThrEff_thrEff (s : State) (v : Nat) : (s.setThrEff v).thrEff = v := rfl
@[simp] theorem State.setThrEff_trace (s : State) (v : Nat) : (s.setThrEff v).trace = s.trace := rfl
@[simp] theorem State.setThrEff_events (s : State) (v : Nat) : (s.setThrEff v).events = s.events := rfl
@[simp] theorem State.setThrEff_edges (s : State) (v : Nat) : (s.setThrEff v).edges = s.edges := rfl

/-! ### `State.present` -/

@[simp] theorem State.present_cfg (s : State) (ev : EventWord) : (s.present ev).cfg = s.cfg := rfl
@[simp] theorem State.present_duty (s : State) (ev : EventWord) : (s.present ev).duty = s.duty := rfl
@[simp] theorem State.present_dir (s : State) (ev : EventWord) : (s.present ev).dir = s.dir := rfl
@[simp] theorem State.present_div (s : State) (ev : EventWord) : (s.present ev).div = s.div := rfl
@[simp] theorem State.present_thr (s : State) (ev : EventWord) : (s.present ev).thr = s.thr := rfl
@[simp] theorem State.present_thrEff (s : State) (ev : EventWord) : (s.present ev).thrEff = s.thrEff := rfl
@[simp] theorem State.present_trace (s : State) (ev : EventWord) : (s.present ev).trace = s.trace := rfl
@[simp] theorem State.present_events (s : State) (ev : EventWord) : (s.present ev).events = ev :: s.events := rfl
@[simp] theorem State.present_edges (s : State) (ev : EventWord) : (s.present ev).edges = s.edges := rfl

/-! ### `State.finishEdge` -/

@[simp] theorem State.finishEdge_cfg (s : State) : s.finishEdge.cfg = s.cfg := rfl
@[simp] theorem State.finishEdge_duty (s : State) : s.finishEdge.duty = s.duty := rfl
@[simp] theorem State.finishEdge_dir (s : State) : s.finishEdge.dir = s.dir := rfl
@[simp] theorem State.finishEdge_div (s : State) : s.finishEdge.div = s.div := rfl
@[simp] theorem State.finishEdge_thr (s : State) : s.finishEdge.thr = s.thr := rfl
@[simp] theorem State.finishEdge_thrEff (s : State) : s.finishEdge.thrEff = s.thrEff := rfl
@[simp] theorem State.finishEdge_trace (s : State) : s.finishEdge.trace = s.trace := rfl
@[simp] theorem State.finishEdge_events (s : State) : s.finishEdge.events = s.events.tail := rfl
@[simp] theorem State.finishEdge_edges (s : State) : s.finishEdge.edges = s.edges + 1 := rfl

/-! ### `State.withEvents` -/

@[simp] theorem State.withEvents_cfg (s : State) (evs : List EventWord) : (s.withEvents evs).cfg = s.cfg := rfl
@[simp] theorem State.withEvents_duty (s : State) (evs : List EventWord) : (s.withEvents evs).duty = s.duty := rfl
@[simp] theorem State.withEvents_dir (s : State) (evs : List EventWord) : (s.withEvents evs).dir = s.dir := rfl
@[simp] theorem State.withEvents_div (s : State) (evs : List EventWord) : (s.withEvents evs).div = s.div := rfl
@[simp] theorem State.withEvents_thr (s : State) (evs : List EventWord) : (s.withEvents evs).thr = s.thr := rfl
@[simp] theorem State.withEvents_thrEff (s : State) (evs : List EventWord) : (s.withEvents evs).thrEff = s.thrEff := rfl
@[simp] theorem State.withEvents_trace (s : State) (evs : List EventWord) : (s.withEvents evs).trace = s.trace := rfl
@[simp] theorem State.withEvents_events (s : State) (evs : List EventWord) : (s.withEvents evs).events = evs := rfl
@[simp] theorem State.withEvents_edges (s : State) (evs : List EventWord) : (s.withEvents evs).edges = s.edges := rfl

/-! ### `State.afterReset` -/

@[simp] theorem State.afterReset_cfg (c : Config) : (State.afterReset c).cfg = c := rfl
@[simp] theorem State.afterReset_duty (c : Config) : (State.afterReset c).duty = c.lowest := rfl
@[simp] theorem State.afterReset_dir (c : Config) : (State.afterReset c).dir = .rising := rfl
@[simp] theorem State.afterReset_div (c : Config) : (State.afterReset c).div = 0 := rfl
@[simp] theorem State.afterReset_thr (c : Config) : (State.afterReset c).thr = c.lowest := rfl
@[simp] theorem State.afterReset_thrEff (c : Config) : (State.afterReset c).thrEff = c.lowest := rfl
@[simp] theorem State.afterReset_trace (c : Config) : (State.afterReset c).trace = [c.lowest] := rfl
@[simp] theorem State.afterReset_events (c : Config) : (State.afterReset c).events = [] := rfl
@[simp] theorem State.afterReset_edges (c : Config) : (State.afterReset c).edges = 0 := rfl

end Sys2Proof.Machine
end

