-- ==== Sys2Proof/Laws/Ops.lean ====
section
/-! SUPPORT. For each shared operation, everything it can do, said once. -/

namespace Sys2Proof.Machine

/-- The flip of R115 as one chain of tests: the second of the two tests, read first. -/
theorem flip_eq (c : Config) (r : Dir) (d : Nat) :
    flip c r d = if d = c.highest then .falling else if d = c.lowest then .rising else r := by
  simp only [flip, atLow, atHigh, decide_eq_true_eq]

/-! ### `stepActions` -/

@[simp] theorem stepActions_cfg (d : Nat) (s : State) : (stepActions d s).cfg = s.cfg := rfl
@[simp] theorem stepActions_duty (d : Nat) (s : State) : (stepActions d s).duty = d := rfl
@[simp] theorem stepActions_dir (d : Nat) (s : State) : (stepActions d s).dir = flip s.cfg s.dir d := rfl
@[simp] theorem stepActions_div (d : Nat) (s : State) : (stepActions d s).div = 0 := rfl
@[simp] theorem stepActions_thr (d : Nat) (s : State) : (stepActions d s).thr = d := rfl
@[simp] theorem stepActions_thrEff (d : Nat) (s : State) : (stepActions d s).thrEff = s.thrEff := rfl
@[simp] theorem stepActions_trace (d : Nat) (s : State) : (stepActions d s).trace = s.trace ++ [d] := rfl
@[simp] theorem stepActions_events (d : Nat) (s : State) : (stepActions d s).events = s.events := rfl
@[simp] theorem stepActions_edges (d : Nat) (s : State) : (stepActions d s).edges = s.edges := rfl

/-! ### `resetActions` -/

@[simp] theorem resetActions_cfg (s : State) : (resetActions s).cfg = s.cfg := rfl
@[simp] theorem resetActions_duty (s : State) : (resetActions s).duty = s.cfg.lowest := rfl
@[simp] theorem resetActions_dir (s : State) : (resetActions s).dir = .rising := rfl
@[simp] theorem resetActions_div (s : State) : (resetActions s).div = 0 := rfl
@[simp] theorem resetActions_thr (s : State) : (resetActions s).thr = s.cfg.lowest := rfl
@[simp] theorem resetActions_thrEff (s : State) : (resetActions s).thrEff = s.thrEff := rfl
@[simp] theorem resetActions_trace (s : State) : (resetActions s).trace = s.trace ++ [s.cfg.lowest] := rfl
@[simp] theorem resetActions_events (s : State) : (resetActions s).events = s.events := rfl
@[simp] theorem resetActions_edges (s : State) : (resetActions s).edges = s.edges := rfl

/-! ### `afterOperation`: the comparator's move and the end of the edge -/

@[simp] theorem afterOperation_cfg (s : State) : (afterOperation s).cfg = s.cfg := rfl
@[simp] theorem afterOperation_duty (s : State) : (afterOperation s).duty = s.duty := rfl
@[simp] theorem afterOperation_dir (s : State) : (afterOperation s).dir = s.dir := rfl
@[simp] theorem afterOperation_div (s : State) : (afterOperation s).div = s.div := rfl
@[simp] theorem afterOperation_thr (s : State) : (afterOperation s).thr = s.thr := rfl
@[simp] theorem afterOperation_thrEff (s : State) :
    (afterOperation s).thrEff = if takesEffect s.edges then s.thr else s.thrEff := rfl
@[simp] theorem afterOperation_trace (s : State) : (afterOperation s).trace = s.trace := rfl
@[simp] theorem afterOperation_events (s : State) : (afterOperation s).events = s.events.tail := rfl
@[simp] theorem afterOperation_edges (s : State) : (afterOperation s).edges = s.edges + 1 := rfl

/-! ### Presenting an event and placing a table word -/

@[simp] theorem presented_present (s : State) (ev : EventWord) : presented (s.present ev) = ev := rfl
@[simp] theorem rstInput_present (s : State) (ev : EventWord) : rstInput (s.present ev) = ev[1] := rfl
@[simp] theorem tickInput_present (s : State) (ev : EventWord) : tickInput (s.present ev) = ev[0] := rfl

/-- Meeting a row changes `DUTY`, `DIR` and `DIV` at most. -/
theorem meetRow_frame (i : Instr) (s : State) :
    (meetRow i s).cfg = s.cfg ∧ (meetRow i s).thr = s.thr ∧ (meetRow i s).thrEff = s.thrEff ∧
      (meetRow i s).trace = s.trace ∧ (meetRow i s).events = s.events ∧ (meetRow i s).edges = s.edges := by
  cases i
  case tickCount => cases h : isLast s <;> simp [meetRow, h]
  all_goals exact ⟨rfl, rfl, rfl, rfl, rfl, rfl⟩

/-- Placing a word that decodes: the row met, and the word's event presented. -/
theorem placeWord_of_decodes {nbits w : Nat} {i : Instr} (h : decodeTableWord nbits w = some i) (s : State) :
    placeWord s nbits w = (meetRow i s).present (SelectWord.event (BitVec.ofNat 5 (w % 2 ^ nbits))) := by
  simp only [placeWord, h]

/-! ### The moves (spec/41_ramp_step.md R111, R112) -/

/-- A rise never passes `HIGHEST`, and from below it goes up where `STEP ≥ 1`. -/
theorem riseTarget_bounds (s : State) : riseTarget s ≤ s.cfg.highest ∧
    (s.duty < s.cfg.highest → 1 ≤ s.cfg.step → s.duty < riseTarget s) := by
  unfold riseTarget
  omega

/-- A fall never passes `LOWEST`, and from above it goes down where `STEP ≥ 1`. -/
theorem fallTarget_bounds (s : State) : s.cfg.lowest ≤ fallTarget s ∧
    (s.cfg.lowest < s.duty → 1 ≤ s.cfg.step → fallTarget s < s.duty) := by
  unfold fallTarget
  omega

/-- `last` as an inequality, R73. -/
theorem isLast_iff (s : State) : isLast s = true ↔ s.cfg.ticksPerStep - 1 ≤ s.div :=
  decide_eq_true_iff

/-- A tuple of registers, register by register, R79. -/
theorem regs_eq_iff (s : State) (duty div thr : Nat) (dir : Dir) :
    s.regs = (duty, dir, div, thr) ↔ s.duty = duty ∧ s.dir = dir ∧ s.div = div ∧ s.thr = thr := by
  simp only [State.regs, Prod.mk.injEq]

/-! ### The select word, bit by bit (spec/30_encoding.md R73) -/

/-- The bits of a select word, whatever it is formed from. -/
theorem select_bits (ev : EventWord) (last dir room : Bool) :
    let sel : SelectWord := ev ++ (BitVec.ofBool last ++ (BitVec.ofBool dir ++ BitVec.ofBool room))
    sel[4] = ev[1] ∧ sel[3] = ev[0] ∧ sel[2] = last ∧ sel[1] = dir ∧ sel[0] = room := by
  revert ev last dir room
  decide

@[simp] theorem selectWord_rst (s : State) : (selectWord s)[4] = rstInput s :=
  (select_bits (presented s) (isLast s) s.dir.bit (hasRoom s)).1

@[simp] theorem selectWord_tick (s : State) : (selectWord s)[3] = tickInput s :=
  (select_bits (presented s) (isLast s) s.dir.bit (hasRoom s)).2.1

@[simp] theorem selectWord_last (s : State) : (selectWord s)[2] = isLast s :=
  (select_bits (presented s) (isLast s) s.dir.bit (hasRoom s)).2.2.1

@[simp] theorem selectWord_dir (s : State) : (selectWord s)[1] = s.dir.bit :=
  (select_bits (presented s) (isLast s) s.dir.bit (hasRoom s)).2.2.2.1

@[simp] theorem selectWord_room (s : State) : (selectWord s)[0] = hasRoom s :=
  (select_bits (presented s) (isLast s) s.dir.bit (hasRoom s)).2.2.2.2

/-- `thr_we` by the inputs and the divider, R80. -/
theorem thrWe_eq_inputs (s : State) : thrWe s = (rstInput s || (tickInput s && isLast s)) := by
  simp only [thrWe, selectWord_rst, selectWord_tick, selectWord_last]

/-! ### The active fraction (spec/20_memory.md R64) -/

/-- Up to `CARRIER_PERIOD` there is a fraction. -/
theorem activeFraction_of_le {s : State} (h : s.thrEff ≤ s.cfg.carrierPeriod) :
    activeFraction s = some ((s.thrEff : Rat) / (s.cfg.carrierPeriod : Rat)) := if_pos h

/-- Above `CARRIER_PERIOD` there is none. -/
theorem activeFraction_of_gt {s : State} (h : s.cfg.carrierPeriod < s.thrEff) : activeFraction s = none :=
  if_neg (Nat.not_le.mpr h)

end Sys2Proof.Machine
end

