-- ==== Sys2Proof/Laws/PerInstr.lean ====
section
/-! SUPPORT. The family `TableRow`: each row of spec/30_encoding.md R74 is well formed. -/

/-- The row's pattern has no bit outside its mask, and every row tests `sel[4]`. -/
def Sys2Proof.Laws.TableRow.Statement (i : Sys2Proof.Instr) : Prop :=
  i.pattern &&& ~~~i.mask = 0#5 ∧ i.mask[4] = true

theorem Sys2Proof.Laws.TableRow.reset : Sys2Proof.Laws.TableRow.Statement .reset := by
  constructor <;> decide
theorem Sys2Proof.Laws.TableRow.idle : Sys2Proof.Laws.TableRow.Statement .idle := by
  constructor <;> decide
theorem Sys2Proof.Laws.TableRow.tickCount : Sys2Proof.Laws.TableRow.Statement .tickCount := by
  constructor <;> decide
theorem Sys2Proof.Laws.TableRow.stepStallUp : Sys2Proof.Laws.TableRow.Statement .stepStallUp := by
  constructor <;> decide
theorem Sys2Proof.Laws.TableRow.stepUp : Sys2Proof.Laws.TableRow.Statement .stepUp := by
  constructor <;> decide
theorem Sys2Proof.Laws.TableRow.stepStallDown : Sys2Proof.Laws.TableRow.Statement .stepStallDown := by
  constructor <;> decide
theorem Sys2Proof.Laws.TableRow.stepDown : Sys2Proof.Laws.TableRow.Statement .stepDown := by
  constructor <;> decide
end

