-- ==== Sys2Proof/Laws/Step.lean ====
section
/-! SUPPORT. What an operation and a step can do: an operation's result as a state, and the inversion of
a step. -/

namespace Sys2Proof.Machine

/-- The state after operation `i`, as a function: `exec` never stops. -/
def performed (i : Instr) (s : State) : State :=
  match i with
  | .reset => resetActions s
  | .idle => s
  | .tickCount => s.setDiv (s.div + 1)
  | .stepStallUp => stepActions s.duty s
  | .stepUp => stepActions (riseTarget s) s
  | .stepStallDown => stepActions s.duty s
  | .stepDown => stepActions (fallTarget s) s

/-- Every operation answers with `performed`. -/
theorem exec_eq_performed (i : Instr) (s : State) : exec i s = .next (performed i s) := by
  cases i <;> rfl

/-- No operation changes the configuration. -/
@[simp] theorem performed_cfg (i : Instr) (s : State) : (performed i s).cfg = s.cfg := by
  cases i <;> rfl

/-- No operation changes `THR_EFF`. -/
@[simp] theorem performed_thrEff (i : Instr) (s : State) : (performed i s).thrEff = s.thrEff := by
  cases i <;> rfl

/-- No operation touches the queue of events. -/
@[simp] theorem performed_events (i : Instr) (s : State) : (performed i s).events = s.events := by
  cases i <;> rfl

/-- No operation counts an edge. -/
@[simp] theorem performed_edges (i : Instr) (s : State) : (performed i s).edges = s.edges := by
  cases i <;> rfl

/-- `thr_data` is the new duty value. -/
theorem thrData_eq_performed (s : State) : thrData s = (performed (selected s) s).duty := by
  simp only [thrData, exec_eq_performed]

/-- A step of a legal engine: the selected operation, then what follows every operation. -/
theorem step_of_legal {s : State} (h : s.cfg.Legal) :
    step s = .next (afterOperation (performed (selected s) s)) := by
  simp only [step, (Config.firstFailed_eq_none_iff s.cfg).2 h, exec_eq_performed]

/-- Inversion: a step that answers a next state is a legal engine's, and that state is the only one. -/
theorem step_next {s t : State} (h : step s = .next t) :
    s.cfg.Legal ∧ t = afterOperation (performed (selected s) s) := by
  cases hc : s.cfg.firstFailed with
  | some k => simp [step, hc] at h
  | none =>
    have hl := (Config.firstFailed_eq_none_iff s.cfg).1 hc
    rw [step_of_legal hl] at h
    exact ⟨hl, (Host.Outcome.next.inj h).symm⟩

/-- No edge. -/
@[simp] theorem runEdges_zero (s : State) : runEdges 0 s = .next s := rfl

/-- One more edge of a run. -/
theorem runEdges_succ (k : Nat) {s t : State} (h : step s = .next t) : runEdges (k + 1) s = runEdges k t := by
  have h' : Sys2Proof.core.step s = .next t := h
  simp only [runEdges, Host.Core.run, h']
  rfl

end Sys2Proof.Machine
end

