-- ==== Sys2Proof/Tests/Slice0.lean ====
section
/-! SUPPORT. The model's own tests. Expected results are the spec's: the words of spec/30_encoding.md R74 and
the vectors V1 to V37 of spec/95_test_vectors.md. The witness theorems show, for each statement with
hypotheses, a state that meets all of them. -/

namespace Sys2Proof.Tests

open Sys2Proof Sys2Proof.Machine

/-- The configuration `(LOWEST, HIGHEST, STEP, TICKS_PER_STEP)` of spec/95_test_vectors.md. -/
def cfgOf (lowest highest step ticksPerStep : Nat) : Config where
  lowest := lowest
  highest := highest
  step := step
  ticksPerStep := ticksPerStep
  carrierPeriod := highest
  dutyWidth := 10
  divWidth := 11

/-- The state `(DUTY, DIR, DIV, THR)` with one event presented; the last write was `THR`. -/
def stateOf (c : Config) (duty : Nat) (dir : Dir) (div thr : Nat) (ev : EventWord) : State where
  cfg := c
  duty := duty
  dir := dir
  div := div
  thr := thr
  thrEff := thr
  trace := [thr]
  events := [ev]
  edges := 0

/-- The registers and the write trace after one step. -/
def afterStep (s : State) : Option (Regs × List Nat) :=
  match step s with
  | .next t => some (t.regs, t.trace)
  | .fault _ => none
  | .refused _ => none

/-- The vectors' configurations. -/
def cfgRef : Config := Config.reference
/-- `(2, 9, 3, 1)`. -/
def cfgP2 : Config := cfgOf 2 9 3 1
/-- `(10, 20, 4, 3)`. -/
def cfgP3 : Config := cfgOf 10 20 4 3
/-- `(10, 20, 4, 1)`. -/
def cfgStall : Config := cfgOf 10 20 4 1
/-- `(1, 4, 1, 2)`. -/
def cfgP1 : Config := cfgOf 1 4 1 2

/-! ### Ill-formed configurations are refused, each by its own check (R152) -/

theorem test_check_e1 : step { State.reset with cfg := { cfgRef with lowest := 1000 } } = .refused (.illegalConfig .e1) := rfl
theorem test_check_e2 : step { State.reset with cfg := { cfgRef with ticksPerStep := 0 } } = .refused (.illegalConfig .e2) := rfl
theorem test_check_e3 : step { State.reset with cfg := { cfgRef with step := 0 } } = .refused (.illegalConfig .e3) := rfl
theorem test_check_e4 : step { State.reset with cfg := { cfgRef with carrierPeriod := 999 } } = .refused (.illegalConfig .e4) := rfl
theorem test_check_e5 : step { State.reset with cfg := { cfgRef with lowest := 0 } } = .refused (.illegalConfig .e5) := rfl
theorem test_check_e6_duty : step { State.reset with cfg := { cfgRef with dutyWidth := 9 } } = .refused (.illegalConfig .e6) := rfl
theorem test_check_e6_div : step { State.reset with cfg := { cfgRef with divWidth := 10 } } = .refused (.illegalConfig .e6) := rfl
theorem test_legal : cfgRef.Legal ∧ cfgP1.Legal ∧ cfgP2.Legal ∧ cfgP3.Legal ∧ cfgStall.Legal := by decide

/-! ### Decoding, words written out from R74 -/

theorem test_decode_reset : decodeTableWord 8 0b00010000 = some .reset := by decide
theorem test_decode_reset_with_tick : decodeTableWord 8 0b00011101 = some .reset := by decide
theorem test_decode_idle : decodeTableWord 8 0b00000111 = some .idle := by decide
theorem test_decode_tickCount : decodeTableWord 8 0b00001011 = some .tickCount := by decide
theorem test_decode_stepStallUp : decodeTableWord 8 0b00001100 = some .stepStallUp := by decide
theorem test_decode_stepUp : decodeTableWord 8 0b00001101 = some .stepUp := by decide
theorem test_decode_stepStallDown : decodeTableWord 8 0b00001110 = some .stepStallDown := by decide
theorem test_decode_stepDown : decodeTableWord 8 0b00001111 = some .stepDown := by decide
theorem test_decode_too_wide : decodeNat 0b100000 = .error .notASelectWord := by decide

/-- spec/95_test_vectors.md section 2.6: how many of the 32 select words select each operation. -/
theorem test_decode_counts :
    let n (i : Instr) := (List.range 32).countP (fun w => decide (decodeTableWord 8 w = some i))
    (n .reset, n .idle, n .tickCount, n .stepStallUp, n .stepUp, n .stepStallDown, n .stepDown) =
      (16, 8, 4, 1, 1, 1, 1) := by decide

theorem test_encode_event : SelectWord.event 0b10110#5 = 0b10#2 ∧ SelectWord.event 0b01101#5 = 0b01#2 := by decide

/-! ### Select words (the `sel` column of the vectors) -/

theorem test_select_v2 : selectWord (stateOf cfgRef 537 .falling 1204 537 0b11#2) = 0b11011#5 := by decide
theorem test_select_v6 : selectWord (stateOf cfgRef 1000 .falling 1999 1000 0b00#2) = 0b00111#5 := by decide
theorem test_select_v28 : selectWord (stateOf cfgStall 20 .rising 0 20 0b01#2) = 0b01100#5 := by decide
theorem test_select_v30 : selectWord (stateOf cfgStall 10 .falling 0 10 0b01#2) = 0b01110#5 := by decide

/-! ### One step, at most two vectors an operation -/

theorem test_reset_v2 : afterStep (stateOf cfgRef 537 .falling 1204 537 0b11#2) =
    some ((100, .rising, 0, 100), [537, 100]) := by decide
theorem test_reset_v4 : afterStep (stateOf cfgP2 9 .falling 0 9 0b11#2) = some ((2, .rising, 0, 2), [9, 2]) := by decide
theorem test_idle_v6 : afterStep (stateOf cfgRef 1000 .falling 1999 1000 0b00#2) =
    some ((1000, .falling, 1999, 1000), [1000]) := by decide
theorem test_idle_nothing_presented :
    afterStep { stateOf cfgRef 101 .rising 0 101 0b00#2 with events := [] } = some ((101, .rising, 0, 101), [101]) := by decide
theorem test_tickCount_v9 : afterStep (stateOf cfgRef 100 .rising 1998 100 0b01#2) =
    some ((100, .rising, 1999, 100), [100]) := by decide
theorem test_tickCount_v12 : afterStep (stateOf cfgP3 14 .rising 1 14 0b01#2) =
    some ((14, .rising, 2, 14), [14]) := by decide
theorem test_stepUp_v21 : afterStep (stateOf cfgP2 8 .rising 0 8 0b01#2) = some ((9, .falling, 0, 9), [8, 9]) := by decide
theorem test_stepUp_v37 : afterStep (stateOf cfgP3 15 .rising 2 11 0b01#2) =
    some ((19, .rising, 0, 19), [11, 19]) := by decide
theorem test_stepDown_v25 : afterStep (stateOf (cfgOf 1 3 5 1) 3 .falling 0 3 0b01#2) =
    some ((1, .rising, 0, 1), [3, 1]) := by decide
theorem test_stepDown_v33 : afterStep (stateOf cfgStall 24 .falling 0 24 0b01#2) =
    some ((20, .falling, 0, 20), [24, 20]) := by decide
theorem test_stepStallUp_v28 : afterStep (stateOf cfgStall 20 .rising 0 20 0b01#2) =
    some ((20, .falling, 0, 20), [20, 20]) := by decide
theorem test_stepStallUp_v29 : afterStep (stateOf cfgStall 23 .rising 0 23 0b01#2) =
    some ((23, .rising, 0, 23), [23, 23]) := by decide
theorem test_stepStallDown_v30 : afterStep (stateOf cfgStall 10 .falling 0 10 0b01#2) =
    some ((10, .rising, 0, 10), [10, 10]) := by decide
theorem test_stepStallDown_v31 : afterStep (stateOf cfgStall 7 .falling 0 7 0b01#2) =
    some ((7, .falling, 0, 7), [7, 7]) := by decide

/-- V41, V42, V45 and V50 of spec/95_test_vectors.md section 3. -/
theorem test_closed_form : closedRegs cfgRef 1999 = (100, .rising, 1999, 100) ∧ closedRegs cfgRef 2000 = (101, .rising, 0, 101) ∧
    closedRegs cfgRef 1800000 = (1000, .falling, 0, 1000) ∧ closedRegs cfgRef 3600000 = (100, .rising, 0, 100) := by decide

/-- V57, V58: the falling lattice is not the rising one where `STEP` does not divide the range. -/
theorem test_closed_form_uneven : closedRegs (cfgOf 100 1000 7 3) 387 = (1000, .falling, 0, 1000) ∧
    closedRegs (cfgOf 100 1000 7 3) 390 = (993, .falling, 0, 993) := by decide

/-- A placed word runs as the first operation after reset. -/
theorem test_placed_words :
    [0x10, 0x00, 0x08, 0x0C, 0x0D, 0x0E, 0x0F].map (fun w => selected (State.reset.withFetchWord 8 w)) =
      [.reset, .idle, .tickCount, .stepStallUp, .stepUp, .stepStallDown, .stepDown] := by decide

/-! ### Witnesses: states that meet the hypotheses of the statements -/

/-- Any state of these configurations steps. -/
theorem steps {s : State} (h : s.cfg.Legal) : ∃ t, step s = .next t := ⟨_, step_of_legal h⟩

theorem witness_IllegalConfigurationIsRefused :
    ∃ k, step { State.reset with cfg := { cfgRef with step := 0 } } = .refused (.illegalConfig k) := ⟨_, rfl⟩
theorem witness_EveryEdgeAnswersNext : State.reset.cfg.Legal := by decide
theorem witness_StepKeepsConstants : ∃ t, step State.reset = .next t := steps (by decide)
theorem witness_ResetInitialisesEngine_without_tick : rstInput (stateOf cfgRef 537 .falling 1204 537 0b10#2) = true := by decide
theorem witness_ResetInitialisesEngine_with_tick : rstInput (stateOf cfgRef 537 .falling 1204 537 0b11#2) = true := by decide
theorem witness_IdleChangesNothing :
    rstInput (stateOf cfgRef 101 .rising 0 101 0b00#2) = false ∧ tickInput (stateOf cfgRef 101 .rising 0 101 0b00#2) = false := by decide
theorem witness_TickCountAdvancesDivider :
    let s := stateOf cfgRef 100 .rising 1998 100 0b01#2
    s.cfg.Legal ∧ rstInput s = false ∧ tickInput s = true ∧ s.div < s.cfg.ticksPerStep - 1 := by decide
theorem witness_TickCountAdvancesDivider_never : (stateOf cfgP2 5 .rising 0 5 0b01#2).cfg.ticksPerStep = 1 := by decide
theorem witness_StepUpSaturatesAndFlips :
    let s := stateOf cfgP3 18 .rising 2 18 0b01#2
    s.cfg.Legal ∧ rstInput s = false ∧ tickInput s = true ∧ s.cfg.ticksPerStep - 1 ≤ s.div ∧ s.dir = .rising ∧
      s.duty < s.cfg.highest := by decide
theorem witness_StepDownSaturatesAndFlips :
    let s := stateOf cfgP3 12 .falling 2 12 0b01#2
    s.cfg.Legal ∧ rstInput s = false ∧ tickInput s = true ∧ s.cfg.ticksPerStep - 1 ≤ s.div ∧ s.dir = .falling ∧
      s.cfg.lowest < s.duty := by decide
theorem witness_StallUpRewritesAndFlipsAtCeiling :
    let s := stateOf cfgStall 20 .rising 0 20 0b01#2
    s.cfg.Legal ∧ rstInput s = false ∧ tickInput s = true ∧ s.cfg.ticksPerStep - 1 ≤ s.div ∧ s.dir = .rising ∧
      s.cfg.highest ≤ s.duty := by decide
theorem witness_StallDownRewritesAndFlipsAtFloor :
    let s := stateOf cfgStall 10 .falling 0 10 0b01#2
    s.cfg.Legal ∧ rstInput s = false ∧ tickInput s = true ∧ s.cfg.ticksPerStep - 1 ≤ s.div ∧ s.dir = .falling ∧
      s.duty ≤ s.cfg.lowest := by decide
theorem witness_StepOperationsShareActions :
    selected (stateOf cfgP2 8 .rising 0 8 0b01#2) = .stepUp ∧ selected (stateOf cfgP2 9 .falling 0 9 0b01#2) = .stepDown ∧
    selected (stateOf cfgP2 9 .rising 0 9 0b01#2) = .stepStallUp ∧
    selected (stateOf cfgP2 2 .falling 0 2 0b01#2) = .stepStallDown := by decide
theorem witness_OperationsLeaveTheRestAlone :
    (∃ t, exec .idle State.reset = .next t) ∧ (∃ t, exec .tickCount State.reset = .next t) ∧
      ∃ t, exec .stepStallUp State.reset = .next t := ⟨⟨_, rfl⟩, ⟨_, rfl⟩, ⟨_, rfl⟩⟩
theorem witness_EventAndStateSelectOperation_events :
    presented (stateOf cfgP3 14 .rising 2 14 0b10#2) = 0b10#2 ∧ presented (stateOf cfgP3 14 .rising 2 14 0b11#2) = 0b11#2 ∧
    presented (stateOf cfgP3 14 .rising 2 14 0b00#2) = 0b00#2 ∧ presented (stateOf cfgP3 14 .rising 2 14 0b01#2) = 0b01#2 := by decide
/-- The five branches of a tick, at the values where they meet. -/
theorem witness_EventAndStateSelectOperation_ticks :
    selected (stateOf cfgP3 14 .rising 1 14 0b01#2) = .tickCount ∧ selected (stateOf cfgP3 19 .rising 2 19 0b01#2) = .stepUp ∧
    selected (stateOf cfgP3 20 .rising 2 20 0b01#2) = .stepStallUp ∧ selected (stateOf cfgP3 11 .falling 2 11 0b01#2) = .stepDown ∧
    selected (stateOf cfgP3 10 .falling 2 10 0b01#2) = .stepStallDown := by decide
theorem witness_StepRunsDecodedOperation :
    State.reset.cfg.Legal ∧ ∃ t, exec (decode (selectWord State.reset)) State.reset = .next t :=
  ⟨by decide, _, exec_eq_performed _ _⟩
theorem witness_DecodeMatchesOperationTable : 5 ≤ 8 ∧ 31 < 32 := by decide
theorem witness_DecodeEncodeAgree : 5 ≤ 5 := by decide
theorem witness_PlacedWordRunsNext :
    State.reset.cfg.Legal ∧ decodeTableWord 8 0x0C = some .stepStallUp ∧ (Instr.stepStallUp = .tickCount → 2 ≤ State.reset.cfg.ticksPerStep) ∧
      ∃ t, exec .stepStallUp (State.reset.withFetchWord 8 0x0C) = .next t :=
  ⟨by decide, by decide, by decide, _, rfl⟩
theorem witness_PlacedWordRunsNext_tickCount :
    State.reset.cfg.Legal ∧ decodeTableWord 8 0x08 = some .tickCount ∧ (Instr.tickCount = .tickCount → 2 ≤ State.reset.cfg.ticksPerStep) ∧
      ∃ t, exec .tickCount (State.reset.withFetchWord 8 0x08) = .next t :=
  ⟨by decide, by decide, by decide, _, rfl⟩
theorem witness_OutputsFollowSelectWord : ∃ t, step (stateOf cfgP2 8 .rising 0 8 0b01#2) = .next t := steps (by decide)
theorem witness_ThresholdCapturesPort_written :
    (∃ t, step (stateOf cfgP2 8 .rising 0 8 0b01#2) = .next t) ∧ thrWe (stateOf cfgP2 8 .rising 0 8 0b01#2) = true :=
  ⟨steps (by decide), by decide⟩
theorem witness_ThresholdCapturesPort_kept :
    (∃ t, step (stateOf cfgP3 14 .rising 1 14 0b01#2) = .next t) ∧ thrWe (stateOf cfgP3 14 .rising 1 14 0b01#2) = false :=
  ⟨steps (by decide), by decide⟩
theorem witness_StepRefinesTransitionFunction : cfgP3.Legal := by decide
theorem witness_RegistersChangeOnlyByTheirWriters :
    ∃ t, step (stateOf cfgP2 8 .rising 0 8 0b01#2) = .next t ∧ t.duty ≠ 8 ∧ t.dir ≠ .rising :=
  ⟨_, step_of_legal (by decide), by decide, by decide⟩
theorem witness_RegistersChangeOnlyByTheirWriters_div :
    ∃ t, step (stateOf cfgP3 14 .rising 1 14 0b01#2) = .next t ∧ t.div ≠ 1 :=
  ⟨_, step_of_legal (by decide), by decide⟩
theorem witness_InvariantsHoldAfterReset : cfgP2.Legal ∧ cfgP2.lowest ≤ 9 ∧ 9 ≤ cfgP2.highest := by decide

/-- A rising state that meets the invariants, about to take the step tick on which it saturates. -/
def risingWitness : State := stateOf cfgP3 18 .rising 2 18 0b01#2
/-- A falling state that meets the invariants, about to take the step tick on which it saturates. -/
def fallingWitness : State := stateOf cfgP3 12 .falling 2 12 0b01#2

theorem rising_engineInv : EngineInv risingWitness := by
  constructor <;> first | decide | exact ⟨2, by decide, by decide⟩
theorem falling_engineInv : EngineInv fallingWitness := by
  constructor <;> first | decide | exact ⟨2, by decide, by decide⟩
theorem rising_outputInv : OutputInv risingWitness := by constructor <;> decide
theorem rising_fits : FitsRegisters risingWitness := by constructor <;> decide

theorem witness_StepKeepsEngineInv : EngineInv risingWitness ∧ ∃ t, step risingWitness = .next t :=
  ⟨rising_engineInv, steps (by decide)⟩
theorem witness_ReachableStatesMeetInvariants : Reachable { State.afterReset cfgP2 with events := [tickEvent], thrEff := 0 } :=
  .start cfgP2 (by decide) [tickEvent] 0
theorem witness_ReachableStatesMeetInvariants_after_a_step :
    ∃ t, step { State.afterReset cfgP2 with events := [tickEvent], thrEff := 0 } = .next t ∧ Reachable t ∧ t.duty = 5 :=
  ⟨_, step_of_legal (by decide), .next witness_ReachableStatesMeetInvariants (step_of_legal (by decide)), by decide⟩
theorem witness_StepKeepsRegistersInWidth : FitsRegisters risingWitness ∧ (∃ t, step risingWitness = .next t) ∧
    selected risingWitness = .stepUp ∧ selected fallingWitness = .stepDown ∧
    selected (stateOf cfgP3 14 .rising 1 14 0b01#2) = .tickCount :=
  ⟨rising_fits, steps (by decide), by decide, by decide, by decide⟩
theorem witness_StepKeepsOutputInv : EngineInv risingWitness ∧ OutputInv risingWitness ∧ ∃ t, step risingWitness = .next t :=
  ⟨rising_engineInv, rising_outputInv, steps (by decide)⟩
theorem witness_StepGating :
    (∃ t, step (stateOf cfgRef 100 .rising 1998 100 0b01#2) = .next t) ∧ rstInput (stateOf cfgRef 100 .rising 1998 100 0b01#2) = false ∧
      ¬IsStepTick (stateOf cfgRef 100 .rising 1998 100 0b01#2) ∧ tickInput (stateOf cfgRef 100 .rising 1998 100 0b01#2) = true ∧
      1998 + 1 = cfgRef.ticksPerStep - 1 :=
  ⟨steps (by decide), by decide, by decide, by decide, by decide⟩
theorem witness_StepGating_stepTick :
    (∃ t, step (stateOf cfgRef 100 .rising 1999 100 0b01#2) = .next t) ∧ IsStepTick (stateOf cfgRef 100 .rising 1999 100 0b01#2) ∧
      1999 = cfgRef.ticksPerStep - 1 :=
  ⟨steps (by decide), by decide, by decide⟩
theorem witness_DividerReturnsToRange :
    let s := stateOf cfgP3 15 .rising 5 15 0b01#2
    s.cfg.Legal ∧ rstInput s = false ∧ tickInput s = true ∧ s.cfg.ticksPerStep - 1 < s.div := by decide
theorem witness_DividerReturnsToRange_stays : (∃ t, step risingWitness = .next t) ∧ risingWitness.div ≤ risingWitness.cfg.ticksPerStep - 1 :=
  ⟨steps (by decide), by decide⟩
/-- The last duty value at which a rise of 4 below 20 saturates, `HIGHEST − DUTY = STEP`, and the first at which
it does not. -/
theorem witness_WrapFreeMovesAgree_up :
    let s := stateOf cfgP3 16 .rising 2 16 0b01#2
    let s' := stateOf cfgP3 15 .rising 2 15 0b01#2
    s.cfg.Legal ∧ selected s = .stepUp ∧ s.cfg.highest - s.duty = s.cfg.step ∧
      selected s' = .stepUp ∧ ¬s'.cfg.highest - s'.duty ≤ s'.cfg.step ∧ s'.cfg.lowest ≤ s'.duty := by decide
/-- The last duty value at which a fall of 4 above 10 saturates, `DUTY − LOWEST = STEP`, and the first at which it
does not. -/
theorem witness_WrapFreeMovesAgree_down :
    let s := stateOf cfgP3 14 .falling 2 14 0b01#2
    let s' := stateOf cfgP3 15 .falling 2 15 0b01#2
    s.cfg.Legal ∧ selected s = .stepDown ∧ s.duty - s.cfg.lowest = s.cfg.step ∧
      selected s' = .stepDown ∧ ¬s'.duty - s'.cfg.lowest ≤ s'.cfg.step ∧ s'.duty ≤ s'.cfg.highest := by decide
/-- The ends of the range from which the unsaturated result is claimed to lie between the boundaries: the floor
rising and the ceiling falling. -/
theorem witness_WrapFreeMovesAgree_ends :
    let s := stateOf cfgP3 10 .rising 2 10 0b01#2
    let s' := stateOf cfgP3 20 .falling 2 20 0b01#2
    selected s = .stepUp ∧ ¬s.cfg.highest - s.duty ≤ s.cfg.step ∧ s.duty = s.cfg.lowest ∧
      selected s' = .stepDown ∧ ¬s'.duty - s'.cfg.lowest ≤ s'.cfg.step ∧ s'.duty = s'.cfg.highest := by decide

/-- One step below the ceiling and one above the floor, where `STEP` divides the range. -/
theorem witness_SaturatingMovesAgreeWithLiteral :
    EngineInv (stateOf cfgP1 3 .rising 1 3 0b01#2) ∧ EngineInv (stateOf cfgP1 2 .falling 1 2 0b01#2) ∧
      cfgP1.step ∣ cfgP1.highest - cfgP1.lowest ∧
      selected (stateOf cfgP1 3 .rising 1 3 0b01#2) = .stepUp ∧ selected (stateOf cfgP1 2 .falling 1 2 0b01#2) = .stepDown := by
  refine ⟨?_, ?_, by decide, by decide, by decide⟩
  all_goals constructor <;> first | decide | exact ⟨2, by decide, by decide⟩
theorem witness_DirectionFlipsExactlyOnArrival :
    (EngineInv risingWitness ∧ (∃ t, step risingWitness = .next t ∧ t.duty = 20) ∧ rstInput risingWitness = false) ∧
    (EngineInv fallingWitness ∧ (∃ t, step fallingWitness = .next t ∧ t.duty = 10) ∧ rstInput fallingWitness = false) :=
  ⟨⟨rising_engineInv, ⟨_, step_of_legal (by decide), by decide⟩, by decide⟩,
    falling_engineInv, ⟨_, step_of_legal (by decide), by decide⟩, by decide⟩
theorem witness_EveryStepTickMovesDuty :
    (EngineInv risingWitness ∧ IsStepTick risingWitness) ∧ (EngineInv fallingWitness ∧ IsStepTick fallingWitness) :=
  ⟨⟨rising_engineInv, by decide⟩, falling_engineInv, by decide⟩
theorem witness_FrozenUntilReset :
    let s := stateOf cfgStall 21 .rising 0 21 0b01#2
    (s.dir = .rising ∧ s.cfg.highest < s.duty) ∧ rstInput s = false ∧ s.cfg.Legal := by decide
theorem witness_FrozenUntilReset_below :
    let s := stateOf cfgStall 9 .falling 0 9 0b10#2
    (s.dir = .falling ∧ s.duty < s.cfg.lowest) ∧ rstInput s = true ∧ s.cfg.Legal := by decide
theorem witness_StepFollowsClosedForm :
    (stateOf cfgP1 4 .falling 1 4 0b01#2).regs = closedRegs cfgP1 7 ∧ ∃ t, step (stateOf cfgP1 4 .falling 1 4 0b01#2) = .next t :=
  ⟨by decide, steps (by decide)⟩
theorem witness_ClosedFormAfterTicks : cfgP3.Legal ∧ NoReset [tickEvent, idleEvent, tickEvent, tickEvent] := by decide
theorem witness_StepTickSpacing : cfgP1.Legal ∧ NoReset [tickEvent] ∧ (tickTotal [tickEvent] + 1) % cfgP1.ticksPerStep = 0 := by decide
theorem witness_BreathReturnsRegisters : EngineInv fallingWitness := falling_engineInv
theorem witness_RampReachesOtherBoundary :
    EngineInv (stateOf cfgP2 2 .rising 0 2 0b01#2) ∧ EngineInv (stateOf cfgP2 9 .falling 0 9 0b01#2) := by
  constructor
  all_goals constructor <;> first | decide | exact ⟨0, by decide, by decide⟩
/-- `N · T = 3` ticks bring `(2, 9, 3, 1)` to the ceiling, and twice as many back. -/
theorem witness_FirstArrivalAndReturn :
    cfgP2.Legal ∧ NoReset (ticks 3) ∧ NoReset (ticks 6) ∧ tickTotal (ticks 2) < cfgP2.rampSteps * cfgP2.ticksPerStep ∧
      tickTotal (ticks 3) = cfgP2.rampSteps * cfgP2.ticksPerStep ∧
      tickTotal (ticks 5) < 2 * cfgP2.rampSteps * cfgP2.ticksPerStep ∧
      tickTotal (ticks 6) = 2 * cfgP2.rampSteps * cfgP2.ticksPerStep := by decide
theorem witness_IdleCyclesAreTransparent : risingWitness.cfg.Legal := by decide
theorem witness_ComparatorNeverReachesEngine :
    risingWitness.engineView = ({ risingWitness with thrEff := 10, edges := 7 } : State).engineView ∧
      risingWitness.events = ({ risingWitness with thrEff := 10, edges := 7 } : State).events ∧ ∃ t, step risingWitness = .next t :=
  ⟨rfl, rfl, steps (by decide)⟩
theorem witness_ThresholdTakesEffectByNextCarrierCycle : ∃ t, step risingWitness = .next t := steps (by decide)
/-- `THR_EFF` at 0 and at `CARRIER_PERIOD`, at the floor and at the ceiling, and one above `CARRIER_PERIOD`, in
`(10, 20, 4, 1)` with a carrier period of 30. -/
theorem witness_ActiveFractionIsNeverZero :
    let c : Config := { cfgStall with carrierPeriod := 30 }
    let at_ (v : Nat) : State := { stateOf c 10 .rising 0 10 0b00#2 with thrEff := v }
    c.Legal ∧ (at_ 0).thrEff ≤ c.carrierPeriod ∧ (at_ 30).thrEff = c.carrierPeriod ∧
      (at_ 10).thrEff = c.lowest ∧ (at_ 20).thrEff = c.highest ∧ c.carrierPeriod < (at_ 31).thrEff := by decide

end Sys2Proof.Tests
end

