-- ==== Sys2Proof/Proofs/Scope.lean ====
section
/-! PROOFS. The statements of spec/00_scope.md: the reference configuration (R13), the frame of the seven
operations (R15, with R20) and the operation a step runs (R17). -/

namespace Sys2Proof.Machine

/-! ### What an operation answers -/

/-- Inversion of `exec`: an operation has one answer, `performed`. -/
theorem exec_next_iff (i : Instr) (s t : State) : exec i s = .next t ↔ t = performed i s := by
  rw [exec_eq_performed, Host.Outcome.next.injEq, eq_comm]

@[simp] theorem performed_idle (s : State) : performed .idle s = s := rfl

@[simp] theorem performed_tickCount (s : State) : performed .tickCount s = s.setDiv (s.div + 1) := rfl

@[simp] theorem performed_stepStallUp (s : State) : performed .stepStallUp s = stepActions s.duty s := rfl

@[simp] theorem performed_stepStallDown (s : State) : performed .stepStallDown s = stepActions s.duty s := rfl

/-- What a step adds after the operation, as one record: only `THR_EFF`, the events and the edge counter move. -/
theorem afterOperation_eq (s : State) :
    afterOperation s = { s with
      thrEff := if takesEffect s.edges then s.thr else s.thrEff,
      events := s.events.tail, edges := s.edges + 1 } := rfl

end Sys2Proof.Machine

namespace Sys2Proof.Proofs

open Sys2Proof.Machine

/-- Settles O15: the operation's answer is `performed`. The first four clauses are its frame lemmas, the last
three its value for the operation they name. -/
theorem operationsLeaveTheRestAlone : Obligations.OperationsLeaveTheRestAlone := by
  intro i s t hexec
  obtain rfl := (exec_next_iff i s t).1 hexec
  refine ⟨performed_cfg i s, performed_thrEff i s, performed_events i s, performed_edges i s, ?idle, ?count, ?stall⟩
  case idle =>
    rintro rfl
    exact performed_idle s
  case count =>
    rintro rfl
    simp
  case stall =>
    rintro (rfl | rfl)
    · simp
    · simp

/-- Settles O1: legality and R12's derived constants are computed; the configuration of the reset state is
`CFG_REF` by R33's definition. -/
theorem referenceConfigurationIsLegal : Obligations.ReferenceConfigurationIsLegal := by
  have hlegal : Config.reference.Legal := by decide
  exact ⟨hlegal, rfl, rfl, rfl, State.afterReset_cfg Config.reference⟩

/-- Settles O17: a legal engine's step is `afterOperation` on the operation's answer, and the operation itself
has moved neither `THR_EFF` nor the events nor the edge counter. -/
theorem stepRunsDecodedOperation : Obligations.StepRunsDecodedOperation := by
  intro s t hlegal hexec
  obtain rfl : t = performed (selected s) s := (exec_next_iff _ s t).1 hexec
  rw [step_of_legal hlegal, afterOperation_eq, performed_thrEff, performed_events, performed_edges, takesEffect]

end Sys2Proof.Proofs
end

/-! PROOFS. The statements of spec/10_state.md: the reset values (R33), the writers of the registers (R20 to R25),
the invariants of reachable states (R36 to R40) and the closed form (R41). The invariants and the closed form are one
development: a legal state meets `EngineInv` exactly when its registers are the closed form for some number of ticks. -/

namespace Sys2Proof.Machine

/-! ### Which operation an edge performs (spec/30_encoding.md R72, spec/40_tick_divider.md R90) -/

theorem selected_of_rst {s : State} (hrst : rstInput s = true) : selected s = .reset := by
  simp [selected, decode, hrst]

theorem selected_of_idle {s : State} (hrst : rstInput s = false) (htick : tickInput s = false) :
    selected s = .idle := by
  simp [selected, decode, hrst, htick]

theorem selected_of_count {s : State} (hrst : rstInput s = false) (htick : tickInput s = true)
    (hdiv : s.div < s.cfg.ticksPerStep - 1) : selected s = .tickCount := by
  have hlast : isLast s = false := by
    rw [← Bool.not_eq_true, isLast_iff]
    omega
  simp [selected, decode, hrst, htick, hlast]

/-- A step tick, rising: STEP.UP where there is room, else the stall. -/
theorem selected_of_stepTick_rising {s : State} (h : IsStepTick s) (hdir : s.dir = .rising) :
    selected s = if s.duty < s.cfg.highest then .stepUp else .stepStallUp := by
  obtain ⟨hrst, htick, hdiv⟩ := h
  have hlast : isLast s = true := (isLast_iff s).2 hdiv
  by_cases hroom : s.duty < s.cfg.highest <;>
    simp [selected, decode, hrst, htick, hlast, hdir, Dir.bit, hasRoom, hroom]

/-- A step tick, falling: STEP.DOWN where there is room, else the stall. -/
theorem selected_of_stepTick_falling {s : State} (h : IsStepTick s) (hdir : s.dir = .falling) :
    selected s = if s.cfg.lowest < s.duty then .stepDown else .stepStallDown := by
  obtain ⟨hrst, htick, hdiv⟩ := h
  have hlast : isLast s = true := (isLast_iff s).2 hdiv
  by_cases hroom : s.cfg.lowest < s.duty <;>
    simp [selected, decode, hrst, htick, hlast, hdir, Dir.bit, hasRoom, hroom]

/-- The new duty value of a step tick (spec/40_tick_divider.md R97): the move of the direction where there is room
for it, else the old value. -/
def stepTarget (s : State) : Nat :=
  match s.dir with
  | .rising => if s.duty < s.cfg.highest then riseTarget s else s.duty
  | .falling => if s.cfg.lowest < s.duty then fallTarget s else s.duty

theorem stepTarget_of_rising {s : State} (hdir : s.dir = .rising) (hroom : s.duty < s.cfg.highest) :
    stepTarget s = riseTarget s := by
  simp only [stepTarget, hdir, if_pos hroom]

theorem stepTarget_of_falling {s : State} (hdir : s.dir = .falling) (hroom : s.cfg.lowest < s.duty) :
    stepTarget s = fallTarget s := by
  simp only [stepTarget, hdir, if_pos hroom]

/-- Whichever step operation a step tick selects, it is the shared actions of R110, R115 and R116 on `stepTarget`. -/
theorem performed_of_stepTick {s : State} (h : IsStepTick s) :
    performed (selected s) s = stepActions (stepTarget s) s := by
  cases hdir : s.dir with
  | rising =>
    rw [selected_of_stepTick_rising h hdir]
    by_cases hroom : s.duty < s.cfg.highest <;> simp [performed, stepTarget, hdir, hroom]
  | falling =>
    rw [selected_of_stepTick_falling h hdir]
    by_cases hroom : s.cfg.lowest < s.duty <;> simp [performed, stepTarget, hdir, hroom]

/-- The four kinds of edge: a reset, an idle cycle, a count tick, a step tick (R90). -/
theorem edge_cases (s : State) :
    rstInput s = true ∨ (rstInput s = false ∧ tickInput s = false) ∨
      (rstInput s = false ∧ tickInput s = true ∧ s.div < s.cfg.ticksPerStep - 1) ∨ IsStepTick s := by
  cases hrst : rstInput s with
  | true => exact .inl rfl
  | false =>
    cases htick : tickInput s with
    | false => exact .inr (.inl ⟨rfl, rfl⟩)
    | true => exact .inr (.inr ((Nat.lt_or_ge _ _).imp (⟨rfl, rfl, ·⟩) (⟨hrst, htick, ·⟩)))

/-- Inversion of a step by the kind of edge. -/
theorem step_cases {s t : State} (h : step s = .next t) :
    (rstInput s = true ∧ t = afterOperation (resetActions s)) ∨
    (rstInput s = false ∧ tickInput s = false ∧ t = afterOperation s) ∨
    (rstInput s = false ∧ tickInput s = true ∧ s.div < s.cfg.ticksPerStep - 1 ∧
      t = afterOperation (s.setDiv (s.div + 1))) ∨
    (IsStepTick s ∧ t = afterOperation (stepActions (stepTarget s) s)) := by
  obtain ⟨-, rfl⟩ := step_next h
  rcases edge_cases s with hrst | ⟨hrst, htick⟩ | ⟨hrst, htick, hcount⟩ | hstep
  · exact .inl ⟨hrst, by rw [selected_of_rst hrst]; rfl⟩
  · exact .inr (.inl ⟨hrst, htick, by rw [selected_of_idle hrst htick]; rfl⟩)
  · exact .inr (.inr (.inl ⟨hrst, htick, hcount, by rw [selected_of_count hrst htick hcount]; rfl⟩))
  · exact .inr (.inr (.inr ⟨hstep, by rw [performed_of_stepTick hstep]⟩))

/-- A step changes no constant, R8. -/
theorem step_cfg {s t : State} (h : step s = .next t) : t.cfg = s.cfg := by
  obtain ⟨-, rfl⟩ := step_next h
  simp

/-- The comparator's move of a step, R25: `THR_EFF` takes the threshold of the new state or stays. -/
theorem step_thrEff {s t : State} (h : step s = .next t) :
    t.thrEff = if takesEffect s.edges then t.thr else s.thrEff := by
  obtain ⟨-, rfl⟩ := step_next h
  simp

/-- A step uses up the event word it was presented, spec/60_exceptions.md R155. -/
theorem step_events {s t : State} (h : step s = .next t) : t.events = s.events.tail := by
  obtain ⟨-, rfl⟩ := step_next h
  simp

/-- Every step keeps `THR` the last written value, R24: an edge writes both or neither. -/
theorem step_keeps_lastWrite {s t : State} (h : step s = .next t) (hlast : s.trace.getLast? = some s.thr) :
    t.trace.getLast? = some t.thr := by
  rcases step_cases h with ⟨-, rfl⟩ | ⟨-, -, rfl⟩ | ⟨-, -, -, rfl⟩ | ⟨-, rfl⟩
  · simp
  · simpa using hlast
  · simpa using hlast
  · simp

end Sys2Proof.Machine

/-! ### The number of step ticks in a ramp (spec/00_scope.md R12) -/

namespace Sys2Proof

/-- `CFG_E1` of R152. -/
theorem Config.Legal.lowest_lt_highest {c : Config} (hl : c.Legal) : c.lowest < c.highest := hl.1

/-- `CFG_E2` of R152. -/
theorem Config.Legal.ticksPerStep_pos {c : Config} (hl : c.Legal) : 0 < c.ticksPerStep := hl.2.1

/-- `CFG_E3` of R152. -/
theorem Config.Legal.step_pos {c : Config} (hl : c.Legal) : 0 < c.step := hl.2.2.1

/-- `N` counts the lattice points below `HIGHEST`: `N = ceil(RANGE / STEP)`, read as a Galois connection. -/
theorem Config.lt_rampSteps_iff {c : Config} (hl : c.Legal) (j : Nat) :
    j < c.rampSteps ↔ j * c.step < c.highest - c.lowest := by
  have hstep : 0 < c.step := hl.step_pos
  rw [Config.rampSteps, Config.range, ← Nat.succ_le_iff, Nat.le_div_iff_mul_le hstep, Nat.succ_mul]
  omega

theorem Config.rampSteps_pos {c : Config} (hl : c.Legal) : 0 < c.rampSteps := by
  rw [Config.lt_rampSteps_iff hl, Nat.zero_mul]
  exact Nat.sub_pos_of_lt hl.lowest_lt_highest

/-- From place `N` on the unsaturated rise is at or past the ceiling. -/
theorem Config.highest_le_of_rampSteps_le {c : Config} (hl : c.Legal) {j : Nat} (h : c.rampSteps ≤ j) :
    c.highest ≤ c.lowest + j * c.step := by
  have hpast := mt (Config.lt_rampSteps_iff hl j).2 (Nat.not_lt.2 h)
  omega

end Sys2Proof

namespace Sys2Proof.Machine

/-! ### The closed form of R41, place by place -/

section ClosedForm

variable {c : Config} {m n : Nat}

theorem breathStep_lt (hl : c.Legal) : breathStep c n < 2 * c.rampSteps :=
  Nat.mod_lt _ (Nat.mul_pos Nat.two_pos (Config.rampSteps_pos hl))

theorem closedDuty_congr (h : breathStep c m = breathStep c n) : closedDuty c m = closedDuty c n := by
  simp only [closedDuty, h]

theorem closedDir_congr (h : breathStep c m = breathStep c n) : closedDir c m = closedDir c n := by
  simp only [closedDir, h]

/-- The rising places are the rising lattice, below `HIGHEST`. -/
theorem closedDuty_of_rising (hl : c.Legal) (h : breathStep c n < c.rampSteps) :
    closedDuty c n = c.lowest + breathStep c n * c.step ∧ closedDuty c n < c.highest := by
  have hlt := (Config.lt_rampSteps_iff hl _).1 h
  have hduty : closedDuty c n = c.lowest + breathStep c n * c.step := by
    simp only [closedDuty, if_pos h]
    split
    case isTrue h0 => simp [h0]
    case isFalse => rfl
  exact ⟨hduty, by omega⟩

/-- The falling places are the falling lattice, above `LOWEST`; the subtraction is exact. -/
theorem closedDuty_of_falling (hl : c.Legal) (h : c.rampSteps ≤ breathStep c n) :
    closedDuty c n + (breathStep c n - c.rampSteps) * c.step = c.highest ∧ c.lowest < closedDuty c n := by
  have hpos := Config.rampSteps_pos hl
  have hlt := (Config.lt_rampSteps_iff hl (breathStep c n - c.rampSteps)).1
    (by have := breathStep_lt (n := n) hl; omega)
  have hduty : closedDuty c n = c.highest - (breathStep c n - c.rampSteps) * c.step := by
    simp only [closedDuty, if_neg (Nat.not_lt.2 h), if_neg (by omega : breathStep c n ≠ 0)]
    split
    case isTrue htop => simp [htop]
    case isFalse => rfl
  omega

theorem closedDir_of_rising (h : breathStep c n < c.rampSteps) : closedDir c n = .rising := if_pos h

theorem closedDir_of_falling (h : c.rampSteps ≤ breathStep c n) : closedDir c n = .falling :=
  if_neg (Nat.not_lt.2 h)

theorem closedDuty_eq_lowest_iff (hl : c.Legal) : closedDuty c n = c.lowest ↔ breathStep c n = 0 := by
  have hstep : c.step ≠ 0 := Nat.ne_of_gt hl.step_pos
  rcases Nat.lt_or_ge (breathStep c n) c.rampSteps with h | h
  · rw [(closedDuty_of_rising hl h).1, Nat.add_eq_left, Nat.mul_eq_zero, or_iff_left hstep]
  · have hlow := (closedDuty_of_falling hl h).2
    have hpos := Config.rampSteps_pos hl
    omega

theorem closedDuty_eq_highest_iff (hl : c.Legal) : closedDuty c n = c.highest ↔ breathStep c n = c.rampSteps := by
  have hstep : c.step ≠ 0 := Nat.ne_of_gt hl.step_pos
  rcases Nat.lt_or_ge (breathStep c n) c.rampSteps with h | h
  · have hhigh := (closedDuty_of_rising hl h).2
    omega
  · have hduty := (closedDuty_of_falling hl h).1
    rw [show closedDuty c n = c.highest ↔ (breathStep c n - c.rampSteps) * c.step = 0 by omega,
      Nat.mul_eq_zero, or_iff_left hstep]
    omega

/-- Boundedness of the closed form, R36. -/
theorem closedDuty_bounds (hl : c.Legal) : c.lowest ≤ closedDuty c n ∧ closedDuty c n ≤ c.highest := by
  rcases Nat.lt_or_ge (breathStep c n) c.rampSteps with h | h
  · obtain ⟨hduty, hhigh⟩ := closedDuty_of_rising hl h
    omega
  · obtain ⟨hduty, hlow⟩ := closedDuty_of_falling hl h
    omega

/-! ### One tick further along the closed form -/

/-- A count tick stays in the same group of `T` ticks. -/
theorem div_mod_succ_of_count {T : Nat} (h : n % T < T - 1) : (n + 1) / T = n / T ∧ (n + 1) % T = n % T + 1 := by
  have hn := Nat.mod_add_div n T
  exact (Nat.div_mod_unique (by omega)).2 ⟨by omega, by omega⟩

/-- The last tick of a group of `T` ticks starts the next group. -/
theorem div_mod_succ_of_last {T : Nat} (hT : 1 ≤ T) (h : T - 1 ≤ n % T) :
    (n + 1) / T = n / T + 1 ∧ (n + 1) % T = 0 := by
  have hn := Nat.mod_add_div n T
  have hlt := Nat.mod_lt n hT
  exact (Nat.div_mod_unique hT).2 ⟨by rw [Nat.mul_succ]; omega, hT⟩

theorem breathStep_succ_of_count (h : n % c.ticksPerStep < c.ticksPerStep - 1) :
    breathStep c (n + 1) = breathStep c n := by
  rw [breathStep, (div_mod_succ_of_count h).1, breathStep]

theorem breathStep_succ_of_last (hl : c.Legal) (h : c.ticksPerStep - 1 ≤ n % c.ticksPerStep) :
    breathStep c (n + 1) = if breathStep c n + 1 = 2 * c.rampSteps then 0 else breathStep c n + 1 := by
  have hlt := breathStep_lt (n := n) hl
  have hmod : breathStep c (n + 1) = (breathStep c n + 1) % (2 * c.rampSteps) := by
    rw [breathStep, (div_mod_succ_of_last hl.ticksPerStep_pos h).1, breathStep, Nat.mod_add_mod]
  rw [hmod]
  split
  case isTrue hend => rw [hend, Nat.mod_self]
  case isFalse hend => exact Nat.mod_eq_of_lt (by omega)

/-- The flip of R115 takes the direction along the closed form. -/
theorem flip_closed (hl : c.Legal) (h : c.ticksPerStep - 1 ≤ n % c.ticksPerStep) :
    flip c (closedDir c n) (closedDuty c (n + 1)) = closedDir c (n + 1) := by
  have hpos := Config.rampSteps_pos hl
  have hplace := breathStep_succ_of_last hl h
  simp only [flip_eq, closedDuty_eq_highest_iff hl, closedDuty_eq_lowest_iff hl, closedDir]
  split at hplace
  case isTrue => simp [hplace, hpos, hpos.ne]
  case isFalse =>
    by_cases htop : breathStep c n + 1 = c.rampSteps
    · simp [hplace, htop]
    · have hside : breathStep c n + 1 < c.rampSteps ↔ breathStep c n < c.rampSteps := by omega
      simp [hplace, htop, hside]

end ClosedForm

/-- The saturating rise of R111 takes the duty value along the rising places and onto the ceiling. -/
theorem riseTarget_closed {s : State} {n : Nat} (hl : s.cfg.Legal) (hduty : s.duty = closedDuty s.cfg n)
    (hrise : breathStep s.cfg n < s.cfg.rampSteps) (h : s.cfg.ticksPerStep - 1 ≤ n % s.cfg.ticksPerStep) :
    riseTarget s = closedDuty s.cfg (n + 1) := by
  have hplace := breathStep_succ_of_last hl h
  rw [if_neg (by omega)] at hplace
  have hold := (closedDuty_of_rising hl hrise).1
  have hsucc := Nat.add_one_mul (breathStep s.cfg n) s.cfg.step
  rw [riseTarget, hduty]
  rcases Nat.lt_or_ge (breathStep s.cfg (n + 1)) s.cfg.rampSteps with hnext | hnext
  · obtain ⟨hnew, hbelow⟩ := closedDuty_of_rising hl hnext
    rw [hplace] at hnew
    omega
  · have htop : closedDuty s.cfg (n + 1) = s.cfg.highest := (closedDuty_eq_highest_iff hl).2 (by omega)
    have hpast := Config.highest_le_of_rampSteps_le hl (hplace ▸ hnext)
    omega

/-- The saturating fall of R112 takes the duty value along the falling places and onto the floor. -/
theorem fallTarget_closed {s : State} {n : Nat} (hl : s.cfg.Legal) (hduty : s.duty = closedDuty s.cfg n)
    (hfall : s.cfg.rampSteps ≤ breathStep s.cfg n) (h : s.cfg.ticksPerStep - 1 ≤ n % s.cfg.ticksPerStep) :
    fallTarget s = closedDuty s.cfg (n + 1) := by
  have hplace := breathStep_succ_of_last hl h
  have hold := (closedDuty_of_falling hl hfall).1
  have hsucc := Nat.add_one_mul (breathStep s.cfg n - s.cfg.rampSteps) s.cfg.step
  rw [fallTarget, hduty]
  split at hplace
  case isTrue hend =>
    have hbottom : closedDuty s.cfg (n + 1) = s.cfg.lowest := (closedDuty_eq_lowest_iff hl).2 hplace
    have hpast := Config.highest_le_of_rampSteps_le hl (j := breathStep s.cfg n - s.cfg.rampSteps + 1) (by omega)
    omega
  case isFalse =>
    obtain ⟨hnew, habove⟩ := closedDuty_of_falling (n := n + 1) hl (by omega)
    rw [hplace, Nat.sub_add_comm hfall] at hnew
    omega

/-- Every step tick moves the duty value one place along the closed form. -/
theorem stepTarget_closed {s : State} {n : Nat} (hl : s.cfg.Legal) (hduty : s.duty = closedDuty s.cfg n)
    (hdir : s.dir = closedDir s.cfg n) (h : s.cfg.ticksPerStep - 1 ≤ n % s.cfg.ticksPerStep) :
    stepTarget s = closedDuty s.cfg (n + 1) := by
  rcases Nat.lt_or_ge (breathStep s.cfg n) s.cfg.rampSteps with hrise | hfall
  · have hroom := hduty ▸ (closedDuty_of_rising hl hrise).2
    rw [stepTarget_of_rising (hdir.trans (closedDir_of_rising hrise)) hroom, riseTarget_closed hl hduty hrise h]
  · have hroom := hduty ▸ (closedDuty_of_falling hl hfall).2
    rw [stepTarget_of_falling (hdir.trans (closedDir_of_falling hfall)) hroom, fallTarget_closed hl hduty hfall h]

/-! ### The machine on the closed form -/

/-- The state's registers are the closed form for `n` ticks, register by register. -/
theorem regs_eq_closedRegs_iff (s : State) (n : Nat) : s.regs = closedRegs s.cfg n ↔
    s.duty = closedDuty s.cfg n ∧ s.dir = closedDir s.cfg n ∧ s.div = n % s.cfg.ticksPerStep ∧
      s.thr = closedDuty s.cfg n := regs_eq_iff _ _ _ _ _

/-- The registers depend on the number of ticks through the place in the breath and the divider only. -/
theorem closedRegs_congr {c : Config} {m n : Nat} (hplace : breathStep c m = breathStep c n)
    (hdiv : m % c.ticksPerStep = n % c.ticksPerStep) : closedRegs c m = closedRegs c n := by
  simp only [closedRegs, closedDuty_congr hplace, closedDir_congr hplace, hdiv]

theorem closedRegs_zero {c : Config} (hl : c.Legal) : closedRegs c 0 = (c.lowest, .rising, 0, c.lowest) := by
  have hplace : breathStep c 0 = 0 := by simp [breathStep]
  have hduty := (closedDuty_eq_lowest_iff hl).2 hplace
  have hdir : closedDir c 0 = .rising := closedDir_of_rising (hplace.symm ▸ Config.rampSteps_pos hl)
  simp only [closedRegs, hduty, hdir, Nat.zero_mod]

/-- How many ticks after a reset the engine stands after the edge, if it stood `n` before it, R41. -/
def ticksAfterEdge (s : State) (n : Nat) : Nat :=
  if rstInput s then 0 else if tickInput s then n + 1 else n

/-- One edge on the closed form, R41 and R95. -/
theorem step_regs_closed {s t : State} {n : Nat} (h : step s = .next t) (hregs : s.regs = closedRegs s.cfg n) :
    t.regs = closedRegs s.cfg (ticksAfterEdge s n) := by
  have hl := (step_next h).1
  obtain ⟨hduty, hdir, hdiv, hthr⟩ := (regs_eq_closedRegs_iff s n).1 hregs
  rcases step_cases h with ⟨hrst, rfl⟩ | ⟨hrst, htick, rfl⟩ | ⟨hrst, htick, hcount, rfl⟩ | ⟨⟨hrst, htick, hlast⟩, rfl⟩
  · simp [ticksAfterEdge, hrst, closedRegs_zero hl, State.regs]
  · simpa [ticksAfterEdge, hrst, htick, State.regs] using hregs
  · rw [hdiv] at hcount
    have hplace := breathStep_succ_of_count hcount
    simp [ticksAfterEdge, hrst, htick, State.regs, closedRegs, closedDuty_congr hplace, closedDir_congr hplace,
      (div_mod_succ_of_count hcount).2, hduty, hdir, hdiv, hthr]
  · rw [hdiv] at hlast
    simp [ticksAfterEdge, hrst, htick, State.regs, closedRegs, stepTarget_closed hl hduty hdir hlast, hdir,
      flip_closed hl hlast, (div_mod_succ_of_last hl.ticksPerStep_pos hlast).2]

/-- The closed form has period `BREATH`, R41. -/
theorem closedRegs_add_breath {c : Config} (hl : c.Legal) (n : Nat) :
    closedRegs c (n + 2 * c.rampSteps * c.ticksPerStep) = closedRegs c n := by
  have hplace : breathStep c (n + 2 * c.rampSteps * c.ticksPerStep) = breathStep c n := by
    rw [breathStep, Nat.add_mul_div_right _ _ hl.ticksPerStep_pos, Nat.add_mod_right, breathStep]
  exact closedRegs_congr hplace (Nat.add_mul_mod_self_right _ _ _)

/-! ### The invariants of R36 to R40 are the closed form -/

/-- The place in the breath and the divider, from any number of ticks that has them. -/
theorem breathStep_of_place {c : Config} {j d : Nat} (hj : j < 2 * c.rampSteps) (hd : d < c.ticksPerStep) :
    breathStep c (d + c.ticksPerStep * j) = j ∧ (d + c.ticksPerStep * j) % c.ticksPerStep = d := by
  obtain ⟨hdiv, hmod⟩ := (Nat.div_mod_unique (Nat.zero_lt_of_lt hd)).2 ⟨rfl, hd⟩
  exact ⟨by rw [breathStep, hdiv, Nat.mod_eq_of_lt hj], hmod⟩

theorem engineInv_of_closed {s : State} {n : Nat} (hl : s.cfg.Legal) (hregs : s.regs = closedRegs s.cfg n) :
    EngineInv s := by
  obtain ⟨hduty, hdir, hdiv, hthr⟩ := (regs_eq_closedRegs_iff s n).1 hregs
  obtain ⟨hfloor, hceiling⟩ := closedDuty_bounds (n := n) hl
  have hdivLt := Nat.mod_lt n hl.ticksPerStep_pos
  rcases Nat.lt_or_ge (breathStep s.cfg n) s.cfg.rampSteps with hj | hj
  · obtain ⟨hpoint, hroom⟩ := closedDuty_of_rising hl hj
    rw [closedDir_of_rising hj] at hdir
    refine ⟨hl, by omega, by omega, by omega, fun _ => by omega, fun hf => ?_, by omega, ?_⟩
    · simp [hdir] at hf
    · simp only [OnLattice, hdir]
      exact ⟨_, hj, hduty.trans hpoint⟩
  · obtain ⟨hpoint, hroom⟩ := closedDuty_of_falling hl hj
    have hlt := breathStep_lt (n := n) hl
    rw [closedDir_of_falling hj] at hdir
    refine ⟨hl, by omega, by omega, by omega, fun hr => ?_, fun _ => by omega, by omega, ?_⟩
    · simp [hdir] at hr
    · simp only [OnLattice, hdir]
      exact ⟨breathStep s.cfg n - s.cfg.rampSteps, by omega, by omega⟩

/-- R40 with R36 to R39: a state that meets the invariants stands at some place of the breath. -/
theorem EngineInv.exists_closed {s : State} (h : EngineInv s) : ∃ n, s.regs = closedRegs s.cfg n := by
  obtain ⟨hl, -, -, hdivRange, -, -, hthr, hlattice⟩ := h
  have hdivLt : s.div < s.cfg.ticksPerStep := by omega
  cases hdir : s.dir with
  | rising =>
    simp only [OnLattice, hdir] at hlattice
    obtain ⟨j, hj, hduty⟩ := hlattice
    obtain ⟨hplace, hmod⟩ := breathStep_of_place (j := j) (by omega) hdivLt
    rw [← hplace] at hj
    have hpoint := (closedDuty_of_rising hl hj).1
    rw [hplace, ← hduty] at hpoint
    exact ⟨_, (regs_eq_closedRegs_iff _ _).2
      ⟨hpoint.symm, hdir.trans (closedDir_of_rising hj).symm, hmod.symm, hthr.trans hpoint.symm⟩⟩
  | falling =>
    simp only [OnLattice, hdir] at hlattice
    obtain ⟨j, hj, hduty⟩ := hlattice
    obtain ⟨hplace, hmod⟩ := breathStep_of_place (c := s.cfg) (j := s.cfg.rampSteps + j) (by omega) hdivLt
    have hj' := hplace.symm ▸ Nat.le_add_right s.cfg.rampSteps j
    have hpoint := (closedDuty_of_falling hl hj').1
    rw [hplace, Nat.add_sub_cancel_left] at hpoint
    have hclosed : s.duty = closedDuty s.cfg (s.div + s.cfg.ticksPerStep * (s.cfg.rampSteps + j)) := by omega
    exact ⟨_, (regs_eq_closedRegs_iff _ _).2
      ⟨hclosed, hdir.trans (closedDir_of_falling hj').symm, hmod.symm, hthr.trans hclosed⟩⟩

/-- The invariants and the closed form say the same of a legal engine. -/
theorem engineInv_iff_closed (s : State) : EngineInv s ↔ s.cfg.Legal ∧ ∃ n, s.regs = closedRegs s.cfg n :=
  ⟨fun h => ⟨h.legal, h.exists_closed⟩, fun ⟨hl, _, hregs⟩ => engineInv_of_closed hl hregs⟩

/-- Every step keeps the invariants: it moves along the closed form. -/
theorem step_keeps_engineInv {s t : State} (h : EngineInv s) (hstep : step s = .next t) : EngineInv t := by
  obtain ⟨hl, n, hregs⟩ := (engineInv_iff_closed s).1 h
  have hcfg := step_cfg hstep
  have hregs' := step_regs_closed hstep hregs
  exact (engineInv_iff_closed t).2 ⟨hcfg ▸ hl, ticksAfterEdge s n, by rw [hcfg]; exact hregs'⟩

/-- A state with the reset registers meets the invariants, whatever else it holds, R33. -/
theorem engineInv_of_resetRegs {s : State} (hl : s.cfg.Legal)
    (hregs : s.regs = (s.cfg.lowest, .rising, 0, s.cfg.lowest)) : EngineInv s :=
  engineInv_of_closed (n := 0) hl (hregs.trans (closedRegs_zero hl).symm)

/-! ### Reachable states (spec/00_scope.md R19) -/

/-- The invariants, and `THR` the last written value, at every start and after every step. -/
theorem Reachable.engineInv_lastWrite {s : State} (h : Reachable s) :
    EngineInv s ∧ s.trace.getLast? = some s.thr := by
  induction h with
  | start c hl evs v => exact ⟨engineInv_of_resetRegs hl rfl, rfl⟩
  | next _ hstep ih => exact ⟨step_keeps_engineInv ih.1 hstep, step_keeps_lastWrite hstep ih.2⟩

/-- R38's consequence: where there is room in the direction of travel, no stall is selected. -/
theorem EngineInv.selected_ne_stall {s : State} (h : EngineInv s) :
    selected s ≠ .stepStallUp ∧ selected s ≠ .stepStallDown := by
  rcases edge_cases s with hrst | ⟨hrst, htick⟩ | ⟨hrst, htick, hcount⟩ | hstep
  · simp [selected_of_rst hrst]
  · simp [selected_of_idle hrst htick]
  · simp [selected_of_count hrst htick hcount]
  · cases hdir : s.dir with
    | rising => simp [selected_of_stepTick_rising hstep hdir, h.roomUp hdir]
    | falling => simp [selected_of_stepTick_falling hstep hdir, h.roomDown hdir]

/-- The lattice of R40 with its exact subtraction, direction by direction. -/
theorem EngineInv.lattice_points {s : State} (h : EngineInv s) :
    (s.dir = .rising → ∃ j, j < s.cfg.rampSteps ∧ s.duty = s.cfg.lowest + j * s.cfg.step) ∧
      (s.dir = .falling → ∃ j, j < s.cfg.rampSteps ∧ s.duty + j * s.cfg.step = s.cfg.highest) := by
  have hlattice := h.lattice
  constructor
  · intro hdir
    simpa only [OnLattice, hdir] using hlattice
  · intro hdir
    simp only [OnLattice, hdir] at hlattice
    obtain ⟨j, hj, hduty⟩ := hlattice
    have hrange := (Config.lt_rampSteps_iff h.legal j).1 hj
    exact ⟨j, hj, by omega⟩

/-! ### Runs without a reset (spec/30_encoding.md R82) -/

/-- The induction over a run without a reset, once: a property of the ticks passed and the state that every edge
keeps holds at the end of the run. -/
theorem run_of_step_keeps {P : Nat → State → Prop}
    (hkeep : ∀ {n : Nat} {s t : State}, step s = .next t → rstInput s = false → P n s → P (ticksAfterEdge s n) t)
    (evs : List EventWord) :
    ∀ {n : Nat} {s : State}, s.cfg.Legal → s.events = evs → NoReset evs → P n s →
      ∃ t, runEdges evs.length s = .next t ∧ P (n + tickTotal evs) t := by
  induction evs with
  | nil => exact fun {_ s} _ _ _ hP => ⟨s, runEdges_zero s, hP⟩
  | cons ev evs ih =>
    intro n s hl hevents hnoReset hP
    obtain ⟨hrst, hrest⟩ := List.forall_mem_cons.1 hnoReset
    have hpresented : presented s = ev := by rw [presented, hevents, List.headD_cons]
    have hstep := step_of_legal hl
    have hP' := hkeep hstep (by rw [rstInput, hpresented, hrst]) hP
    have hevents' := (step_events hstep).trans (congrArg List.tail hevents)
    obtain ⟨u, hrun, hu⟩ := ih ((step_cfg hstep).symm ▸ hl) hevents' hrest hP'
    have hticks : ticksAfterEdge s n + tickTotal evs = n + tickTotal (ev :: evs) := by
      simp only [ticksAfterEdge, rstInput, tickInput, hpresented, hrst, tickTotal, List.countP_cons,
        Bool.false_eq_true, if_false]
      split <;> omega
    exact ⟨u, by rw [List.length_cons, runEdges_succ _ hstep, hrun], hticks ▸ hu⟩

theorem closedTrace_succ_of_count {c : Config} {n : Nat} (h : n % c.ticksPerStep < c.ticksPerStep - 1) :
    closedTrace c (n + 1) = closedTrace c n := by
  simp only [closedTrace, (div_mod_succ_of_count h).1]

theorem closedTrace_succ_of_last {c : Config} {n : Nat} (hl : c.Legal) (h : c.ticksPerStep - 1 ≤ n % c.ticksPerStep) :
    closedTrace c (n + 1) = closedTrace c n ++ [closedDuty c (n + 1)] := by
  obtain ⟨hdiv, hmod⟩ := div_mod_succ_of_last hl.ticksPerStep_pos h
  have hmul : (n / c.ticksPerStep + 1) * c.ticksPerStep = n + 1 := by
    rw [← hdiv]
    exact Nat.div_mul_cancel (Nat.dvd_of_mod_eq_zero hmod)
  simp [closedTrace, hdiv, List.range_succ, hmul]

/-- The engine stands where R41 puts it after a reset and `n` ticks: the registers and the write trace. -/
structure OnClosedForm (c : Config) (n : Nat) (s : State) : Prop where
  cfg : s.cfg = c
  regs : s.regs = closedRegs c n
  trace : s.trace = closedTrace c n

theorem onClosedForm_afterReset {c : Config} (hl : c.Legal) (evs : List EventWord) :
    OnClosedForm c 0 ((State.afterReset c).withEvents evs) where
  cfg := rfl
  regs := (closedRegs_zero hl).symm
  trace := by simp [closedTrace]

/-- Every edge without a reset keeps the engine on the closed form, R41. -/
theorem step_keeps_onClosedForm {c : Config} {n : Nat} {s t : State} (h : step s = .next t)
    (hrst : rstInput s = false) (hs : OnClosedForm c n s) : OnClosedForm c (ticksAfterEdge s n) t := by
  obtain ⟨rfl, hregs, htrace⟩ := hs
  have hl := (step_next h).1
  refine ⟨step_cfg h, step_regs_closed h hregs, ?_⟩
  obtain ⟨hduty, hdir, hdiv, -⟩ := (regs_eq_closedRegs_iff s n).1 hregs
  rcases step_cases h with ⟨hrst', -⟩ | ⟨-, htick, rfl⟩ | ⟨-, htick, hcount, rfl⟩ | ⟨⟨-, htick, hlast⟩, rfl⟩
  · simp [hrst] at hrst'
  · simpa [ticksAfterEdge, hrst, htick] using htrace
  · rw [hdiv] at hcount
    simpa [ticksAfterEdge, hrst, htick, closedTrace_succ_of_count hcount] using htrace
  · rw [hdiv] at hlast
    simp [ticksAfterEdge, hrst, htick, closedTrace_succ_of_last hl hlast, stepTarget_closed hl hduty hdir hlast, htrace]

end Sys2Proof.Machine

namespace Sys2Proof.Proofs

open Sys2Proof.Machine

/-- Settles O38: the place after the edge is `ticksAfterEdge`, and the configuration stays. -/
theorem stepFollowsClosedForm : Obligations.StepFollowsClosedForm := by
  intro s t n hregs hstep
  rw [step_cfg hstep]
  exact step_regs_closed hstep hregs

/-- Settles O27: the invariants say that the registers are on the closed form, and every step keeps them there. -/
theorem stepKeepsEngineInv : Obligations.StepKeepsEngineInv :=
  fun _ _ => step_keeps_engineInv

/-- Settles O28: the invariants hold of every reachable state by induction on how it is reached; R38 excludes the
stalls, and R39 makes the last written value `DUTY`. -/
theorem reachableStatesMeetInvariants : Obligations.ReachableStatesMeetInvariants := by
  intro s hreach
  obtain ⟨hinv, hlast⟩ := hreach.engineInv_lastWrite
  exact ⟨⟨hinv.floor, hinv.ceiling⟩, hinv.divRange, ⟨hinv.roomUp, hinv.roomDown, hinv.selected_ne_stall⟩,
    ⟨hinv.thrTracks, hinv.thrTracks ▸ hlast⟩, hinv.lattice_points⟩

/-- Settles O39: the run starts on the closed form at 0 ticks and every edge keeps it there. -/
theorem closedFormAfterTicks : Obligations.ClosedFormAfterTicks := by
  intro c evs hl hnoReset
  refine ⟨?_, closedRegs_add_breath hl _⟩
  obtain ⟨t, hrun, ht⟩ :=
    run_of_step_keeps step_keeps_onClosedForm evs hl rfl hnoReset (onClosedForm_afterReset hl evs)
  rw [Nat.zero_add] at ht
  exact ⟨t, hrun, ht.regs, ht.trace⟩

/-- Settles O25: the frames of IDLE, TICK.COUNT and the stalls (R15) leave only the named writers. -/
theorem registersChangeOnlyByTheirWriters : Obligations.RegistersChangeOnlyByTheirWriters := by
  intro s t hstep
  obtain ⟨-, rfl⟩ := step_next hstep
  obtain ⟨-, -, -, -, hidle, hcount, hstall⟩ :=
    operationsLeaveTheRestAlone (selected s) s _ (exec_eq_performed (selected s) s)
  simp only [afterOperation_duty, afterOperation_dir, afterOperation_div, afterOperation_thr, afterOperation_trace]
  refine ⟨fun hduty => ?duty, fun hwrite => ⟨fun hsel => ?idle, fun hsel => ?count⟩, fun hdiv hsel => ?div⟩
  case duty =>
    cases hsel : selected s with
    | reset => exact .inl rfl
    | stepUp => exact .inr (.inl rfl)
    | stepDown => exact .inr (.inr rfl)
    | idle => exact absurd (congrArg State.duty (hidle hsel)) hduty
    | tickCount => exact absurd (hcount hsel).1 hduty
    | stepStallUp => exact absurd (hstall (.inl hsel)) hduty
    | stepStallDown => exact absurd (hstall (.inr hsel)) hduty
  case idle =>
    rw [hidle hsel] at hwrite
    simp at hwrite
  case count =>
    obtain ⟨-, hdir, hthr, htrace⟩ := hcount hsel
    simp [hdir, hthr, htrace] at hwrite
  case div => exact hdiv (congrArg State.div (hidle hsel))

/-- Settles O46: `THR_EFF` moves by `takesEffect` alone, which a carrier cycle's start makes true. -/
theorem thresholdTakesEffectByNextCarrierCycle : Obligations.ThresholdTakesEffectByNextCarrierCycle := by
  intro s t hstep
  rw [step_thrEff hstep]
  constructor
  · intro hcarrier
    simp [takesEffect, hcarrier]
  · exact ite_eq_or_eq _ _ _

/-- Settles O2: the four registers and the trace are R33's by definition of the state after RESET; `State.reset` is
that state in `CFG_REF`. -/
theorem resetStateHoldsSpecifiedValues : Obligations.ResetStateHoldsSpecifiedValues :=
  ⟨fun c => ⟨(regs_eq_iff _ _ _ _ _).2 ⟨State.afterReset_duty c, State.afterReset_dir c, State.afterReset_div c,
    State.afterReset_thr c⟩, State.afterReset_cfg c, State.afterReset_trace c⟩, rfl⟩

/-- Settles O26: the engine's invariants need the reset registers only; those of the outputs and the widths come from
`LOWEST` and `THR_EFF` lying in a range that fits the registers (R9, R11). -/
theorem invariantsHoldAfterReset : Obligations.InvariantsHoldAfterReset := by
  refine ⟨fun c evs v hl => ⟨engineInv_of_resetRegs hl rfl, fun hv => ⟨?outputs, ?widths⟩⟩,
    engineInv_of_resetRegs referenceConfigurationIsLegal.1 rfl⟩
  case outputs =>
    exact ⟨by simpa using Nat.le_of_lt hl.lowest_lt_highest, rfl, hv⟩
  case widths =>
    obtain ⟨hrange, -, -, hcarrier, -, hwidth, -⟩ := hl
    have hceiling : c.highest ≤ 2 ^ c.dutyWidth - 1 := hcarrier.trans hwidth
    have hfloor : c.lowest ≤ 2 ^ c.dutyWidth - 1 := hrange.le.trans hceiling
    exact ⟨hfloor, Nat.zero_le _, hfloor, hv.2.trans hceiling⟩

end Sys2Proof.Proofs

/-! PROOFS. The statements of spec/20_memory.md: the threshold port (R52) and what the comparator holds (R60, R63).
One inversion lemma says what an edge does at the port; the range of the written values follows from it and R36. -/

namespace Sys2Proof.Machine

/-! ### The threshold port in the cycle of an edge -/

/-- `thr_we` is 1 exactly in the cycle of a reset or of a step tick, R80. -/
theorem thrWe_iff_reset_or_stepTick (s : State) : thrWe s = true ↔ rstInput s = true ∨ IsStepTick s := by
  rw [thrWe_eq_inputs, IsStepTick, ← isLast_iff]
  cases rstInput s <;> simp

/-- `thr_data` is `DUTY` after the edge, R31. -/
theorem step_thrData {s t : State} (h : step s = .next t) : thrData s = t.duty := by
  obtain ⟨-, rfl⟩ := step_next h
  rw [thrData_eq_performed, afterOperation_duty]

/-- Inversion of a step at the port, R52: an edge writes the new duty value to `THR` and the trace, or it leaves both
and `DUTY` alone. -/
theorem step_writes_or_keeps {s t : State} (h : step s = .next t) :
    (thrWe s = true ∧ t.thr = t.duty ∧ t.trace = s.trace ++ [t.duty]) ∨
    (thrWe s = false ∧ t.thr = s.thr ∧ t.trace = s.trace ∧ t.duty = s.duty) := by
  rcases step_cases h with ⟨hrst, rfl⟩ | ⟨hrst, htick, rfl⟩ | ⟨hrst, htick, hcount, rfl⟩ | ⟨htick, rfl⟩
  · exact .inl ⟨(thrWe_iff_reset_or_stepTick s).2 (.inl hrst), rfl, rfl⟩
  · exact .inr ⟨by simp [thrWe_eq_inputs, hrst, htick], rfl, rfl, rfl⟩
  · have hwe : ¬thrWe s = true := by
      simp [thrWe_iff_reset_or_stepTick, hrst, Nat.not_le.2 hcount]
    exact .inr ⟨Bool.eq_false_of_not_eq_true hwe, rfl, rfl, rfl⟩
  · exact .inl ⟨(thrWe_iff_reset_or_stepTick s).2 (.inr htick), rfl, rfl⟩

/-! ### The range of the written values (spec/20_memory.md R60, R63) -/

/-- `THR` lies in the engine's range, R36 and R39. -/
theorem EngineInv.thr_bounds {s : State} (h : EngineInv s) : s.cfg.lowest ≤ s.thr ∧ s.thr ≤ s.cfg.highest := by
  rw [h.thrTracks]
  exact ⟨h.floor, h.ceiling⟩

/-- What every written value satisfies, every value written after a step satisfies, if the new `DUTY` does. -/
theorem step_keeps_written {P : Nat → Prop} {s t : State} (h : step s = .next t) (hold : ∀ v ∈ s.trace, P v)
    (hnew : P t.duty) : ∀ v ∈ t.trace, P v := by
  rcases step_writes_or_keeps h with ⟨-, -, htrace⟩ | ⟨-, -, htrace, -⟩
  · rw [htrace, List.forall_mem_append, List.forall_mem_singleton]
    exact ⟨hold, hnew⟩
  · rwa [htrace]

/-- Every step from a state that meets the engine's invariants keeps those of the outputs: the new `THR` is in range
(R36, R39), and nothing else can reach the trace or `THR_EFF`. -/
theorem step_keeps_outputInv {s t : State} (hinv : EngineInv s) (hout : OutputInv s) (h : step s = .next t) :
    OutputInv t := by
  have hinv' : EngineInv t := step_keeps_engineInv hinv h
  have hcfg : t.cfg = s.cfg := step_cfg h
  refine ⟨step_keeps_written h ?old ⟨hinv'.floor, hinv'.ceiling⟩, step_keeps_lastWrite h hout.lastWrite, ?effective⟩
  case old =>
    rw [hcfg]
    exact hout.written
  case effective =>
    rw [step_thrEff h]
    split
    case isTrue => exact hinv'.thr_bounds
    case isFalse =>
      rw [hcfg]
      exact hout.effective

end Sys2Proof.Machine

namespace Sys2Proof.Proofs

open Sys2Proof.Machine

/-- Settles O30: the step keeps the engine's invariants, so the value it writes, and the one `THR_EFF` may take, is in
range. -/
theorem stepKeepsOutputInv : Obligations.StepKeepsOutputInv :=
  fun _ _ => step_keeps_outputInv

/-- Settles O23: `thr_data` is the new duty value, and the edge writes it or leaves `THR`, the trace and `DUTY` alone. -/
theorem thresholdCapturesPort : Obligations.ThresholdCapturesPort := by
  intro s t hstep
  have hdata : thrData s = t.duty := step_thrData hstep
  rw [hdata]
  rcases step_writes_or_keeps hstep with ⟨hwe, hwrite⟩ | ⟨hwe, hkeep⟩
  · simp [hwe, hwrite]
  · simp [hwe, hkeep]

end Sys2Proof.Proofs

/-! PROOFS. The statements of spec/30_encoding.md: the operation table (R74) as one match-and-mask lemma, from which
decode and encode agree; the operation a tick selects (R72, R90) and the placing of a row; the outputs as a function
of the operation (R80); and the runs of ticks of R83, which move along the closed form. -/

namespace Sys2Proof

/-! ### Patterns and masks, for words of any width -/

/-- A word is its bits under a mask together with its bits outside. -/
theorem and_mask_or_and_not_mask {n : Nat} (word mask : BitVec n) : (word &&& mask) ||| (word &&& ~~~mask) = word := by
  rw [← BitVec.and_or_distrib_left, BitVec.or_not_self, BitVec.and_allOnes]

/-- A pattern inside its mask is what the mask reads back, whatever stands in the bits outside. -/
theorem pattern_or_fill_and_mask {n : Nat} {pattern mask : BitVec n} (fill : BitVec n)
    (h : pattern &&& ~~~mask = 0#n) : (pattern ||| (fill &&& ~~~mask)) &&& mask = pattern := by
  have hinside : pattern &&& mask = pattern := by
    simpa only [h, BitVec.or_zero] using and_mask_or_and_not_mask pattern mask
  simp [BitVec.and_or_distrib_right, BitVec.and_assoc, hinside]

/-! ### The operation table -/

theorem tableRow_wellFormed (i : Instr) : Laws.TableRow.Statement i := by
  cases i
  case reset => exact Laws.TableRow.reset
  case idle => exact Laws.TableRow.idle
  case tickCount => exact Laws.TableRow.tickCount
  case stepStallUp => exact Laws.TableRow.stepStallUp
  case stepUp => exact Laws.TableRow.stepUp
  case stepStallDown => exact Laws.TableRow.stepStallDown
  case stepDown => exact Laws.TableRow.stepDown

/-- The decoder is the table of R74, row by row over the 32 select words. -/
theorem decode_eq_iff (sel : SelectWord) (i : Instr) : decode sel = i ↔ sel &&& i.mask = i.pattern := by
  revert sel
  cases i <;> decide

theorem decode_encodeWith (i : Instr) (fill : SelectWord) : decode (encodeWith i fill) = i :=
  (decode_eq_iff _ i).2 (pattern_or_fill_and_mask fill (tableRow_wellFormed i).1)

theorem encodeWith_decode (sel : SelectWord) : encodeWith (decode sel) sel = sel := by
  rw [encodeWith, ← (decode_eq_iff sel (decode sel)).1 rfl, and_mask_or_and_not_mask]

/-- A table word decodes exactly if its bits are a select word, and then as that word. -/
theorem decodeTableWord_eq_some_iff (nbits w : Nat) (i : Instr) : decodeTableWord nbits w = some i ↔
    w % 2 ^ nbits < 32 ∧ decode (BitVec.ofNat 5 (w % 2 ^ nbits)) = i := by
  by_cases h : w % 2 ^ nbits < 32 <;> simp [decodeTableWord, decodeNat, h]

/-- A select word keeps its bits in any number of them from 5 up. -/
theorem decodeTableWord_of_lt {nbits w : Nat} (hnbits : 5 ≤ nbits) (hw : w < 32) :
    decodeTableWord nbits w = some (decode (BitVec.ofNat 5 w)) := by
  have hmod : w % 2 ^ nbits = w := Nat.mod_eq_of_lt (hw.trans_le (Nat.pow_le_pow_right Nat.two_pos hnbits))
  rw [decodeTableWord_eq_some_iff, hmod]
  exact ⟨hw, rfl⟩

/-- The row a table word matches, on natural numbers as R74 prints it. -/
theorem decodeTableWord_eq_some_iff_row {nbits w : Nat} (hnbits : 5 ≤ nbits) (hw : w < 32) (i : Instr) :
    decodeTableWord nbits w = some i ↔ w &&& i.mask.toNat = i.pattern.toNat := by
  rw [decodeTableWord_of_lt hnbits hw, Option.some.injEq, decode_eq_iff, ← BitVec.toNat_inj, BitVec.toNat_and,
    BitVec.toNat_ofNat, Nat.mod_eq_of_lt hw]

/-! ### The event bits of a select word (spec/30_encoding.md R73) -/

theorem rst_of_decode_reset {sel : SelectWord} (h : decode sel = .reset) : (SelectWord.event sel)[1] = true := by
  revert sel
  decide

theorem inputs_of_decode_idle {sel : SelectWord} (h : decode sel = .idle) :
    (SelectWord.event sel)[1] = false ∧ (SelectWord.event sel)[0] = false := by
  revert sel
  decide

/-- The other five operations are those of a tick, R72. -/
theorem inputs_of_decode_tick {sel : SelectWord} (hreset : decode sel ≠ .reset) (hidle : decode sel ≠ .idle) :
    (SelectWord.event sel)[1] = false ∧ (SelectWord.event sel)[0] = true := by
  revert sel
  decide

/-! ### The operations that write the threshold -/

/-- `thr_we` by operation, R80: RESET and the four step operations. -/
def Instr.writesThreshold : Instr → Bool
  | .idle | .tickCount => false
  | .reset | .stepStallUp | .stepUp | .stepStallDown | .stepDown => true

theorem writesThreshold_decode (sel : SelectWord) :
    (decode sel).writesThreshold = (sel[4] || (sel[3] && sel[2])) := by
  revert sel
  decide

end Sys2Proof

namespace Sys2Proof.Machine

/-! ### The operation of a tick (spec/40_tick_divider.md R90) -/

/-- The chain of R90, from the cases of `edge_cases` that a tick leaves. -/
theorem selected_of_tick {s : State} (hrst : rstInput s = false) (htick : tickInput s = true) :
    selected s =
      if s.div < s.cfg.ticksPerStep - 1 then .tickCount
      else if s.dir = .falling ∧ s.cfg.lowest < s.duty then .stepDown
      else if s.dir = .rising ∧ s.duty < s.cfg.highest then .stepUp
      else if s.dir = .rising then .stepStallUp
      else .stepStallDown := by
  by_cases hcount : s.div < s.cfg.ticksPerStep - 1
  · rw [if_pos hcount, selected_of_count hrst htick hcount]
  · have hstep : IsStepTick s := ⟨hrst, htick, Nat.not_lt.1 hcount⟩
    cases hdir : s.dir with
    | rising => simp [hcount, selected_of_stepTick_rising hstep hdir]
    | falling => simp [hcount, selected_of_stepTick_falling hstep hdir]

/-! ### Placing a row (log 12) -/

/-- A state made to meet the row of an operation of a tick selects it when a tick is presented. -/
theorem selected_present_meetRow_of_tick {s : State} {i : Instr} {ev : EventWord} (hl : s.cfg.Legal)
    (hreset : i ≠ .reset) (hidle : i ≠ .idle) (hrst : ev[1] = false) (htick : ev[0] = true)
    (hcount : i = .tickCount → 2 ≤ s.cfg.ticksPerStep) : selected ((meetRow i s).present ev) = i := by
  have hrange := hl.lowest_lt_highest
  rw [selected_of_tick (s := (meetRow i s).present ev) hrst htick]
  cases i with
  | reset => exact absurd rfl hreset
  | idle => exact absurd rfl hidle
  | tickCount =>
    have hdiv : (meetRow .tickCount s).div < s.cfg.ticksPerStep - 1 := by
      have hT := hcount rfl
      by_cases hlast : isLast s = true
      · simp only [meetRow, if_pos hlast, State.setDiv_div]
        omega
      · simp only [meetRow, if_neg hlast]
        exact Nat.not_le.1 (mt (isLast_iff s).2 hlast)
    simp [(meetRow_frame .tickCount s).1, hdiv]
  | stepStallUp => simp [meetRow, terminalCount]
  | stepUp =>
    have hroom : (if s.duty < s.cfg.highest then s.duty else s.cfg.lowest) < s.cfg.highest := by split <;> omega
    simp [meetRow, terminalCount, hroom]
  | stepStallDown => simp [meetRow, terminalCount]
  | stepDown =>
    have hroom : s.cfg.lowest < if s.cfg.lowest < s.duty then s.duty else s.cfg.highest := by split <;> omega
    simp [meetRow, terminalCount, hroom]

/-- A state made to meet a row, presented with the row's event word, selects the row's operation. -/
theorem selected_present_meetRow {s : State} {sel : SelectWord} (hl : s.cfg.Legal)
    (hcount : decode sel = .tickCount → 2 ≤ s.cfg.ticksPerStep) :
    selected ((meetRow (decode sel) s).present (SelectWord.event sel)) = decode sel := by
  by_cases hreset : decode sel = .reset
  · rw [hreset]
    exact selected_of_rst (rst_of_decode_reset hreset)
  by_cases hidle : decode sel = .idle
  · obtain ⟨hrst, htick⟩ := inputs_of_decode_idle hidle
    rw [hidle]
    exact selected_of_idle hrst htick
  obtain ⟨hrst, htick⟩ := inputs_of_decode_tick hreset hidle
  exact selected_present_meetRow_of_tick hl hreset hidle hrst htick hcount

/-! ### Runs of ticks (spec/30_encoding.md R83) -/

theorem noReset_ticks (k : Nat) : NoReset (ticks k) := by
  intro ev hev
  rw [List.eq_of_mem_replicate hev]
  rfl

theorem tickTotal_ticks (k : Nat) : tickTotal (ticks k) = k := by
  simp [tickTotal, ticks, List.countP_replicate, tickEvent]

theorem length_ticks (k : Nat) : (ticks k).length = k := List.length_replicate

/-- The registers stand where the closed form has them after `n` ticks, whatever was written before. -/
structure RegsOnClosedForm (c : Config) (n : Nat) (s : State) : Prop where
  cfg : s.cfg = c
  regs : s.regs = closedRegs c n

theorem step_keeps_regsOnClosedForm {c : Config} {n : Nat} {s t : State} (h : step s = .next t)
    (hs : RegsOnClosedForm c n s) : RegsOnClosedForm c (ticksAfterEdge s n) t := by
  obtain ⟨rfl, hregs⟩ := hs
  exact ⟨step_cfg h, step_regs_closed h hregs⟩

/-- A run of `k` ticks moves the registers `k` places along the closed form. -/
theorem runEdges_ticks {s : State} {n : Nat} (hl : s.cfg.Legal) (hregs : s.regs = closedRegs s.cfg n) (k : Nat) :
    ∃ t, runEdges k (s.withEvents (ticks k)) = .next t ∧ t.regs = closedRegs s.cfg (n + k) := by
  obtain ⟨t, hrun, ht⟩ := run_of_step_keeps (P := RegsOnClosedForm s.cfg)
    (fun hstep _ => step_keeps_regsOnClosedForm hstep) (ticks k) (s := s.withEvents (ticks k)) hl rfl
    (noReset_ticks k) ⟨rfl, hregs⟩
  rw [length_ticks] at hrun
  exact ⟨t, hrun, by rw [ht.regs, tickTotal_ticks]⟩

/-- Half a breath from the reset registers the closed form is at the ceiling, just reversed. -/
theorem closedRegs_ramp {c : Config} (hl : c.Legal) :
    closedRegs c (c.rampSteps * c.ticksPerStep) = (c.highest, .falling, 0, c.highest) := by
  have hpos := Config.rampSteps_pos hl
  have hplace : breathStep c (c.rampSteps * c.ticksPerStep) = c.rampSteps := by
    rw [breathStep, Nat.mul_div_cancel _ hl.ticksPerStep_pos, Nat.mod_eq_of_lt (by omega)]
  simp only [closedRegs, (closedDuty_eq_highest_iff hl).2 hplace, closedDir_of_falling hplace.ge, Nat.mul_mod_left]

/-- A second ramp closes the breath. -/
theorem closedRegs_ramp_ramp {c : Config} (hl : c.Legal) :
    closedRegs c (c.rampSteps * c.ticksPerStep + c.rampSteps * c.ticksPerStep) =
      (c.lowest, .rising, 0, c.lowest) := by
  rw [← closedRegs_zero hl, ← closedRegs_add_breath hl 0]
  congr 1
  ring

end Sys2Proof.Machine

namespace Sys2Proof.Proofs

open Sys2Proof.Machine

/-- Settles O19: both directions follow from the match-and-mask form of the decoder and a row's pattern lying inside
its mask; a select word is below 32, so a table word of 5 or more bits holds it whole. -/
theorem decodeEncodeAgree : Obligations.DecodeEncodeAgree := by
  refine ⟨fun i fill nbits hnbits => ⟨decode_encodeWith i fill, ?_⟩, encodeWith_decode⟩
  rw [decodeTableWord_of_lt hnbits (encodeWith i fill).isLt, BitVec.ofNat_toNat, BitVec.setWidth_eq,
    decode_encodeWith]

/-- Settles O16: each event word fixes the two inputs; the tick's chain is `selected_of_tick`. -/
theorem eventAndStateSelectOperation : Obligations.EventAndStateSelectOperation := by
  refine fun s => ⟨?reset, ?idle, ?tick⟩
  case reset =>
    rintro (hev | hev)
    · exact selected_of_rst (by rw [rstInput, hev]; rfl)
    · exact selected_of_rst (by rw [rstInput, hev]; rfl)
  case idle =>
    intro hev
    exact selected_of_idle (by rw [rstInput, hev]; rfl) (by rw [tickInput, hev]; rfl)
  case tick =>
    intro hev
    exact selected_of_tick (by rw [rstInput, hev]; rfl) (by rw [tickInput, hev]; rfl)

/-- Settles O18: each clause is the match-and-mask lemma for its row. -/
theorem decodeMatchesOperationTable : Obligations.DecodeMatchesOperationTable := by
  intro nbits w hnbits hw
  have hrow := decodeTableWord_eq_some_iff_row hnbits hw
  exact ⟨hrow .reset, hrow .idle, hrow .tickCount, hrow .stepUp, hrow .stepDown, hrow .stepStallUp,
    hrow .stepStallDown⟩

/-- Settles O20: the placed state meets the row and is presented with its event word, so it selects the operation;
the placing leaves the constants alone, so the step is a legal engine's. -/
theorem placedWordRunsNext : Obligations.PlacedWordRunsNext := by
  intro s t nbits w i hl hdecodes hcount hexec
  have hplaced := placeWord_of_decodes hdecodes s
  have hlegal : (s.withFetchWord nbits w).cfg.Legal := by
    rwa [State.withFetchWord, hplaced, State.present_cfg, (meetRow_frame i s).1]
  have hselected : selected (s.withFetchWord nbits w) = i := by
    obtain ⟨-, rfl⟩ := (decodeTableWord_eq_some_iff nbits w i).1 hdecodes
    rw [State.withFetchWord, hplaced, selected_present_meetRow hl hcount]
  exact ⟨hselected, by rw [step_of_legal hlegal, hselected, (exec_next_iff _ _ _).1 hexec]⟩

/-- Settles O22: the bit formula is the operation's `writesThreshold`, read off operation by operation; `thr_data` is
the new duty value. -/
theorem outputsFollowSelectWord : Obligations.OutputsFollowSelectWord := by
  intro s
  have hwe : thrWe s = (selected s).writesThreshold := (writesThreshold_decode (selectWord s)).symm
  refine ⟨rfl, ?_, ?_, fun t => step_thrData⟩
  all_goals
    rw [hwe]
    cases selected s <;> simp [Instr.writesThreshold]

/-- Settles O41: the state stands at some place of the breath, and the closed form has period `BREATH`. -/
theorem breathReturnsRegisters : Obligations.BreathReturnsRegisters := by
  intro s hinv
  obtain ⟨n, hregs⟩ := hinv.exists_closed
  obtain ⟨t, hrun, ht⟩ := runEdges_ticks hinv.legal hregs s.cfg.breathTicks
  exact ⟨t, hrun, by rw [ht, Config.breathTicks, closedRegs_add_breath hinv.legal, hregs]⟩

/-- Settles O42: the two boundaries with `DIV = 0` are the closed form after no tick and after one ramp. -/
theorem rampReachesOtherBoundary : Obligations.RampReachesOtherBoundary := by
  intro s hinv hdiv
  have hl := hinv.legal
  have hthr := hinv.thrTracks
  rw [ramp, length_ticks]
  constructor
  · rintro ⟨hduty, hdir⟩
    have hregs : s.regs = closedRegs s.cfg 0 := by
      rw [closedRegs_zero hl, regs_eq_iff]
      exact ⟨hduty, hdir, hdiv, hthr.trans hduty⟩
    simpa [closedRegs_ramp hl] using runEdges_ticks hl hregs (s.cfg.rampSteps * s.cfg.ticksPerStep)
  · rintro ⟨hduty, hdir⟩
    have hregs : s.regs = closedRegs s.cfg (s.cfg.rampSteps * s.cfg.ticksPerStep) := by
      rw [closedRegs_ramp hl, regs_eq_iff]
      exact ⟨hduty, hdir, hdiv, hthr.trans hduty⟩
    simpa [closedRegs_ramp_ramp hl] using runEdges_ticks hl hregs (s.cfg.rampSteps * s.cfg.ticksPerStep)

/-- Settles O21: nine closed words, computed. -/
theorem decodeReadsWrittenOutWords : Obligations.DecodeReadsWrittenOutWords := by
  unfold Obligations.DecodeReadsWrittenOutWords
  decide

end Sys2Proof.Proofs

/-! PROOFS. The statements of spec/40_tick_divider.md: what an edge does to the divider (R92, R93, R96), the
transition function (R97), the spacing of step ticks (R94) and idle cycles (R95). The transition function, with the
write it reports, carries the engine's view of one edge; a run folds it over the events. -/

namespace Sys2Proof.Machine

/-! ### The divider over one edge (R92, R93, R96) -/

/-- TICK.COUNT is selected exactly by a count tick, R90. -/
theorem selected_eq_tickCount_iff (s : State) : selected s = .tickCount ↔
    rstInput s = false ∧ tickInput s = true ∧ s.div < s.cfg.ticksPerStep - 1 := by
  refine ⟨fun hsel => ?_, fun ⟨hrst, htick, hcount⟩ => selected_of_count hrst htick hcount⟩
  rcases edge_cases s with hrst | ⟨hrst, htick⟩ | hcount | hstep
  · simp [selected_of_rst hrst] at hsel
  · simp [selected_of_idle hrst htick] at hsel
  · exact hcount
  · have hcleared : (performed (selected s) s).div = 0 := by rw [performed_of_stepTick hstep, stepActions_div]
    simp [hsel] at hcleared

theorem isLast_of_count {s : State} (hcount : s.div < s.cfg.ticksPerStep - 1) : isLast s = false :=
  Bool.eq_false_iff.2 (mt (isLast_iff s).1 (Nat.not_le.2 hcount))

theorem not_isStepTick_of_count {s : State} (hcount : s.div < s.cfg.ticksPerStep - 1) : ¬IsStepTick s :=
  fun ⟨_, _, hlast⟩ => Nat.not_le.2 hcount hlast

/-- `DIV` after an edge: a reset and a step tick clear it, a count tick counts, an idle cycle leaves it. -/
theorem step_div {s t : State} (h : step s = .next t) :
    t.div = if rstInput s = true ∨ IsStepTick s then 0 else if tickInput s then s.div + 1 else s.div := by
  rcases step_cases h with ⟨hrst, rfl⟩ | ⟨hrst, htick, rfl⟩ | ⟨hrst, htick, hcount, rfl⟩ | ⟨hstep, rfl⟩
  · simp [hrst]
  · simp [IsStepTick, hrst, htick]
  · simp [hrst, htick, not_isStepTick_of_count hcount]
  · rw [if_pos (.inr hstep), afterOperation_div, stepActions_div]

/-- Step gating, R93: an edge that is neither a reset nor a step tick leaves `DUTY`, `DIR` and `THR` alone. -/
theorem step_gated {s t : State} (h : step s = .next t) (hrst : rstInput s = false) (hstep : ¬IsStepTick s) :
    t.duty = s.duty ∧ t.dir = s.dir ∧ t.thr = s.thr := by
  rcases step_cases h with ⟨hrst', -⟩ | ⟨-, -, rfl⟩ | ⟨-, -, -, rfl⟩ | ⟨hstep', -⟩
  · exact absurd hrst' (by simp [hrst])
  · exact ⟨rfl, rfl, rfl⟩
  · exact ⟨rfl, rfl, rfl⟩
  · exact absurd hstep' hstep

/-- A divider in its range stays there, R37 and R96, whatever the other registers hold. -/
theorem step_keeps_divRange {s t : State} (h : step s = .next t) (hrange : s.div ≤ s.cfg.ticksPerStep - 1) :
    t.div ≤ s.cfg.ticksPerStep - 1 := by
  rcases step_cases h with ⟨-, rfl⟩ | ⟨-, -, rfl⟩ | ⟨-, -, hcount, rfl⟩ | ⟨-, rfl⟩
  · exact Nat.zero_le _
  · exact hrange
  · exact hcount
  · exact Nat.zero_le _

/-! ### The transition function (R97) -/

/-- R97's block on a step tick: the shared actions of R110, R115 and R116 on `stepTarget`, and the write of it. -/
theorem transition_of_stepTick {s : State} (h : IsStepTick s) :
    transition s.cfg s.regs (rstInput s) (tickInput s) =
      ((stepActions (stepTarget s) s).regs, true, stepTarget s) := by
  obtain ⟨hrst, htick, hlast⟩ := h
  have hcount : ¬s.div < s.cfg.ticksPerStep - 1 := Nat.not_lt.2 hlast
  cases hdir : s.dir with
  | rising => simp [transition, State.regs, hrst, htick, hcount, hdir, flip_eq, stepTarget, riseTarget]
  | falling => simp [transition, State.regs, hrst, htick, hcount, hdir, flip_eq, stepTarget, fallTarget]

/-- Every step is R97's block on the registers and the inputs, outputs included. -/
theorem step_eq_transition {s t : State} (h : step s = .next t) :
    (t.regs, thrWe s, thrData s) = transition s.cfg s.regs (rstInput s) (tickInput s) := by
  rw [step_thrData h, thrWe_eq_inputs]
  rcases step_cases h with ⟨hrst, rfl⟩ | ⟨hrst, htick, rfl⟩ | ⟨hrst, htick, hcount, rfl⟩ | ⟨hstep, rfl⟩
  · simp [transition, State.regs, hrst]
  · simp [transition, State.regs, hrst, htick]
  · simp [transition, State.regs, hrst, htick, hcount, isLast_of_count hcount]
  · rw [transition_of_stepTick hstep]
    obtain ⟨hrst, htick, hlast⟩ := hstep
    simp [State.regs, hrst, htick, (isLast_iff s).2 hlast]

/-! ### The engine's view of an edge and of a run (R95) -/

/-- The engine's view after an edge on which `ev` is presented: R97's block on the registers, and the value it writes,
if it writes one, at the end of the trace (R55). -/
def viewAfter (v : Config × Regs × List Nat) (ev : EventWord) : Config × Regs × List Nat :=
  let (c, r, trace) := v
  let (r', we, data) := transition c r ev[1] ev[0]
  (c, r', if we then trace ++ [data] else trace)

@[simp] theorem viewAfter_idleEvent (v : Config × Regs × List Nat) : viewAfter v idleEvent = v := rfl

@[simp] theorem State.withEvents_engineView (s : State) (evs : List EventWord) :
    (s.withEvents evs).engineView = s.engineView := rfl

/-- What the engine shows after an edge depends on what it showed before and on the event word alone. -/
theorem step_engineView {s t : State} (h : step s = .next t) :
    t.engineView = viewAfter s.engineView (presented s) := by
  have htransition : transition s.cfg s.regs (presented s)[1] (presented s)[0] = (t.regs, thrWe s, thrData s) :=
    (step_eq_transition h).symm
  have htrace : t.trace = if thrWe s then s.trace ++ [thrData s] else s.trace := by
    rw [step_thrData h]
    rcases step_writes_or_keeps h with ⟨hwe, -, htrace⟩ | ⟨hwe, -, htrace, -⟩
    · simp [hwe, htrace]
    · simp [hwe, htrace]
  simp only [State.engineView, viewAfter, htransition, htrace, step_cfg h]

/-- A run over all the events presented ends, and folds `viewAfter` over them; resets may be among them. -/
theorem run_engineView (evs : List EventWord) : ∀ {s : State}, s.cfg.Legal → s.events = evs →
    ∃ t, runEdges evs.length s = .next t ∧ t.engineView = evs.foldl viewAfter s.engineView := by
  induction evs with
  | nil => exact fun {s} _ _ => ⟨s, runEdges_zero s, rfl⟩
  | cons ev evs ih =>
    intro s hl hevents
    have hpresented : presented s = ev := by rw [presented, hevents, List.headD_cons]
    have hstep := step_of_legal hl
    have hevents' := (step_events hstep).trans (congrArg List.tail hevents)
    obtain ⟨u, hrun, hu⟩ := ih ((step_cfg hstep).symm ▸ hl) hevents'
    refine ⟨u, by rw [List.length_cons, runEdges_succ _ hstep, hrun], ?_⟩
    rw [hu, step_engineView hstep, hpresented, List.foldl_cons]

/-! ### The spacing of step ticks (R94) -/

/-- `n mod T` is the terminal count exactly when the next number is a multiple of `T`. -/
theorem last_iff_succ_mod_eq_zero {T n : Nat} (hT : 1 ≤ T) : T - 1 ≤ n % T ↔ (n + 1) % T = 0 := by
  refine ⟨fun hlast => (div_mod_succ_of_last hT hlast).2, fun hzero => Nat.not_lt.1 fun hcount => ?_⟩
  have hsucc := (div_mod_succ_of_count hcount).2
  omega

/-- With a tick presented next, only the divider decides whether it is a step tick, R91. -/
theorem isStepTick_withEvents_tick (s : State) :
    IsStepTick (s.withEvents [tickEvent]) ↔ s.cfg.ticksPerStep - 1 ≤ s.div := by
  simp [IsStepTick, rstInput, tickInput, presented, tickEvent]

end Sys2Proof.Machine

namespace Sys2Proof.Proofs

open Sys2Proof.Machine

/-- Settles O24: a legal engine's step answers, and every step is R97's block. -/
theorem stepRefinesTransitionFunction : Obligations.StepRefinesTransitionFunction :=
  fun _ hl => ⟨_, step_of_legal hl, step_eq_transition (step_of_legal hl)⟩

/-- Settles O31: the gating lemma, and `DIV` after an edge read at the two values on either side of the terminal
count. -/
theorem stepGating : Obligations.StepGating := by
  intro s t hstep hrst
  have hdiv := step_div hstep
  refine ⟨step_gated hstep hrst, fun htick hbelow => ?raises, fun htick hlast => ?finds⟩
  case raises =>
    have hcount : ¬IsStepTick s := not_isStepTick_of_count (by omega)
    exact ⟨hcount, by simp [hdiv, hrst, htick, hcount, hbelow]⟩
  case finds =>
    have hstepTick : IsStepTick s := ⟨hrst, htick, hlast.ge⟩
    exact ⟨hstepTick, hdiv.trans (if_pos (.inr hstepTick))⟩

/-- Settles O32: above the range a tick is a step tick, which clears `DIV`; from inside no edge leaves the range. -/
theorem dividerReturnsToRange : Obligations.DividerReturnsToRange := by
  constructor
  · intro s hl hrst htick habove
    have hstepTick : IsStepTick s := ⟨hrst, htick, habove.le⟩
    exact ⟨hstepTick, _, step_of_legal hl, (step_div (step_of_legal hl)).trans (if_pos (.inr hstepTick))⟩
  · intro s t hstep hrange
    rw [step_cfg hstep]
    exact step_keeps_divRange hstep hrange

/-- Settles O40: the run ends on the closed form for its number of ticks (R41), whose divider is `n mod T`. -/
theorem stepTickSpacing : Obligations.StepTickSpacing := by
  intro c evs hl hnoReset
  obtain ⟨t, hrun, ht⟩ :=
    run_of_step_keeps step_keeps_onClosedForm evs hl rfl hnoReset (onClosedForm_afterReset hl evs)
  obtain ⟨rfl, hregs, -⟩ := ht
  obtain ⟨-, -, hdiv, -⟩ := (regs_eq_closedRegs_iff t _).1 hregs
  rw [Nat.zero_add] at hdiv
  refine ⟨t, hrun, hdiv, ?_⟩
  rw [isStepTick_withEvents_tick, hdiv, last_iff_succ_mod_eq_zero hl.ticksPerStep_pos]

/-- Settles O44: both runs fold `viewAfter` over their events, and an idle event leaves the view alone. -/
theorem idleCyclesAreTransparent : Obligations.IdleCyclesAreTransparent := by
  intro s pre post hl
  obtain ⟨t, hrun, ht⟩ := run_engineView (pre ++ post) (s := s.withEvents (pre ++ post)) hl rfl
  obtain ⟨u, hrun', hu⟩ :=
    run_engineView (pre ++ idleEvent :: post) (s := s.withEvents (pre ++ idleEvent :: post)) hl rfl
  refine ⟨t, u, hrun, hrun', ?_⟩
  simp only [ht, hu, State.withEvents_engineView, List.foldl_append, List.foldl_cons, viewAfter_idleEvent]

/-- Settles O9: TICK.COUNT is selected by a count tick alone, which writes no threshold and finds room in the divider
(R11); with `T = 1` no divider is below `T - 1`. -/
theorem tickCountAdvancesDivider : Obligations.TickCountAdvancesDivider := by
  refine fun s => ⟨exec_eq_performed .tickCount s, fun hl hrst htick hcount => ?count, fun hT hsel => ?one⟩
  case count =>
    have hsel : selected s = .tickCount := selected_of_count hrst htick hcount
    obtain ⟨-, -, -, -, -, -, hwidth⟩ := hl
    exact ⟨hsel, by simp [thrWe_eq_inputs, hrst, isLast_of_count hcount], by simp [thrData_eq_performed, hsel], hcount,
      hcount.trans_le hwidth⟩
  case one =>
    obtain ⟨-, -, hcount⟩ := (selected_eq_tickCount_iff s).1 hsel
    omega

end Sys2Proof.Proofs

/-! PROOFS. The statements of spec/41_ramp_step.md: the four step operations (R110 to R116), the saturating moves
(R121, R122), where the direction flips (R124), the widths (R125), which states move and which are frozen (R126, R127)
and the durations from RESET (R128). All four operations are the shared actions on the new duty value `stepTarget`. -/

/-! ### The constants: widths (spec/00_scope.md R9, R11) and the lattice where `STEP` divides `RANGE` (R122) -/

namespace Sys2Proof

theorem Config.Legal.highest_le_width {c : Config} (hl : c.Legal) : c.highest ≤ 2 ^ c.dutyWidth - 1 := by
  obtain ⟨-, -, -, hcarrier, -, hwidth, -⟩ := hl
  exact hcarrier.trans hwidth

/-- `CFG_E5` of R152. -/
theorem Config.Legal.lowest_pos {c : Config} (hl : c.Legal) : 0 < c.lowest := by
  obtain ⟨-, -, -, -, hlowest, -, -⟩ := hl
  exact hlowest

theorem Config.Legal.terminalCount_le_width {c : Config} (hl : c.Legal) :
    c.ticksPerStep - 1 ≤ 2 ^ c.divWidth - 1 := by
  obtain ⟨-, -, -, -, -, -, hwidth⟩ := hl
  exact hwidth

/-- If `STEP` divides `RANGE`, a whole step fits above every lattice point. -/
theorem Config.step_fits_of_dvd {c : Config} (hl : c.Legal) (hdvd : c.step ∣ c.highest - c.lowest) {j : Nat}
    (hj : j < c.rampSteps) : j * c.step + c.step ≤ c.highest - c.lowest := by
  have hlt := (Config.lt_rampSteps_iff hl j).1 hj
  obtain ⟨k, hk⟩ := hdvd
  rw [hk, Nat.mul_comm c.step k] at hlt ⊢
  rw [← Nat.succ_mul]
  exact Nat.mul_le_mul_right c.step (Nat.lt_of_mul_lt_mul_right hlt)

end Sys2Proof

namespace Sys2Proof.Machine

/-! ### The shared actions (R110, R115, R116) -/

/-- What a step operation changes, as one record: `DIV`, `DUTY`, `DIR`, `THR` and the trace. -/
theorem stepActions_eq (d : Nat) (s : State) :
    stepActions d s = { s with
      div := 0, duty := d, dir := flip s.cfg s.dir d, thr := d, trace := s.trace ++ [d] } := rfl

theorem flip_rising (c : Config) (d : Nat) : flip c .rising d = if d = c.highest then .falling else .rising := by
  rw [flip_eq, ite_self]

/-- From FALLING only the test at the floor matters, since the floor is not the ceiling. -/
theorem flip_falling {c : Config} (hl : c.Legal) (d : Nat) :
    flip c .falling d = if d = c.lowest then .rising else .falling := by
  have hne : c.lowest ≠ c.highest := hl.lowest_lt_highest.ne
  rw [flip_eq]
  by_cases hlow : d = c.lowest
  · simp [hlow, hne]
  · simp [hlow]

theorem flip_highest (c : Config) (r : Dir) : flip c r c.highest = .falling := by
  rw [flip_eq, if_pos rfl]

theorem flip_lowest {c : Config} (hl : c.Legal) (r : Dir) : flip c r c.lowest = .rising := by
  rw [flip_eq, if_neg hl.lowest_lt_highest.ne, if_pos rfl]

/-! ### The new duty value (R111 to R114) -/

theorem stepTarget_of_ceiling {s : State} (hdir : s.dir = .rising) (hceiling : s.cfg.highest ≤ s.duty) :
    stepTarget s = s.duty := by
  simp only [stepTarget, hdir, if_neg (Nat.not_lt.2 hceiling)]

theorem stepTarget_of_floor {s : State} (hdir : s.dir = .falling) (hfloor : s.duty ≤ s.cfg.lowest) :
    stepTarget s = s.duty := by
  simp only [stepTarget, hdir, if_neg (Nat.not_lt.2 hfloor)]

/-- No step operation takes `DUTY` above both its old value and the ceiling, R125. -/
theorem stepTarget_le {s : State} (hl : s.cfg.Legal) : stepTarget s ≤ s.duty ∨ stepTarget s ≤ s.cfg.highest := by
  cases hdir : s.dir with
  | rising =>
    rcases Nat.lt_or_ge s.duty s.cfg.highest with hroom | hceiling
    · exact .inr (stepTarget_of_rising hdir hroom ▸ (riseTarget_bounds s).1)
    · exact .inl (stepTarget_of_ceiling hdir hceiling).le
  | falling =>
    rcases Nat.lt_or_ge s.cfg.lowest s.duty with hroom | hfloor
    · exact .inl (stepTarget_of_falling hdir hroom ▸ ((fallTarget_bounds s).2 hroom hl.step_pos).le)
    · exact .inl (stepTarget_of_floor hdir hfloor).le

/-- Where R38 holds a step operation moves `DUTY`, R126. -/
theorem EngineInv.stepTarget_ne {s : State} (h : EngineInv s) : stepTarget s ≠ s.duty := by
  have hpos := h.legal.step_pos
  cases hdir : s.dir with
  | rising =>
    rw [stepTarget_of_rising hdir (h.roomUp hdir)]
    exact ((riseTarget_bounds s).2 (h.roomUp hdir) hpos).ne'
  | falling =>
    rw [stepTarget_of_falling hdir (h.roomDown hdir)]
    exact ((fallTarget_bounds s).2 (h.roomDown hdir) hpos).ne

/-- The rise computed without wrapping, R121, from every state. -/
theorem riseTarget_eq_wrapFree (s : State) : riseTarget s =
    if s.cfg.highest - s.duty ≤ s.cfg.step then s.cfg.highest else s.duty + s.cfg.step := by
  rw [riseTarget]
  split <;> omega

/-- The fall computed without wrapping, R121, from every state. -/
theorem fallTarget_eq_wrapFree (s : State) : fallTarget s =
    if s.duty - s.cfg.lowest ≤ s.cfg.step then s.cfg.lowest else s.duty - s.cfg.step := by
  rw [fallTarget]
  split <;> omega

/-! ### The cycle of a step tick -/

/-- An operation other than RESET, IDLE and TICK.COUNT is selected by a step tick only, R90. -/
theorem isStepTick_of_selected {s : State} (hreset : selected s ≠ .reset) (hidle : selected s ≠ .idle)
    (hcount : selected s ≠ .tickCount) : IsStepTick s := by
  rcases edge_cases s with hrst | ⟨hrst, htick⟩ | ⟨hrst, htick, hdiv⟩ | hstep
  · exact absurd (selected_of_rst hrst) hreset
  · exact absurd (selected_of_idle hrst htick) hidle
  · exact absurd (selected_of_count hrst htick hdiv) hcount
  · exact hstep

theorem selected_eq_stepUp_iff (s : State) : selected s = .stepUp ↔
    IsStepTick s ∧ s.dir = .rising ∧ s.duty < s.cfg.highest := by
  refine ⟨fun hsel => ?_, fun ⟨hstep, hdir, hroom⟩ => by rw [selected_of_stepTick_rising hstep hdir, if_pos hroom]⟩
  have hstep : IsStepTick s := isStepTick_of_selected (by simp [hsel]) (by simp [hsel]) (by simp [hsel])
  cases hdir : s.dir with
  | rising => exact ⟨hstep, rfl, by simpa [selected_of_stepTick_rising hstep hdir] using hsel⟩
  | falling =>
    rw [selected_of_stepTick_falling hstep hdir] at hsel
    split at hsel <;> contradiction

theorem selected_eq_stepDown_iff (s : State) : selected s = .stepDown ↔
    IsStepTick s ∧ s.dir = .falling ∧ s.cfg.lowest < s.duty := by
  refine ⟨fun hsel => ?_, fun ⟨hstep, hdir, hroom⟩ => by rw [selected_of_stepTick_falling hstep hdir, if_pos hroom]⟩
  have hstep : IsStepTick s := isStepTick_of_selected (by simp [hsel]) (by simp [hsel]) (by simp [hsel])
  cases hdir : s.dir with
  | rising =>
    rw [selected_of_stepTick_rising hstep hdir] at hsel
    split at hsel <;> contradiction
  | falling => exact ⟨hstep, rfl, by simpa [selected_of_stepTick_falling hstep hdir] using hsel⟩

/-- The answer and the outputs of the step operation a step tick selects, by its new duty value: R110, R115, R116. -/
theorem stepTick_answer {s : State} {i : Instr} {d : Nat} (h : IsStepTick s) (hsel : selected s = i)
    (htarget : stepTarget s = d) : exec i s = .next (stepActions d s) ∧ thrWe s = true ∧ thrData s = d := by
  subst hsel htarget
  have hperformed := performed_of_stepTick h
  refine ⟨?_, (thrWe_iff_reset_or_stepTick s).2 (.inr h), ?_⟩
  · rw [exec_eq_performed, hperformed]
  · rw [thrData_eq_performed, hperformed, stepActions_duty]

/-! ### The registers stay in their widths (R125) -/

/-- After an edge `DUTY` is no higher than it was, or it is in the range that fits (R9, R11). -/
theorem step_keeps_duty_in_width {s t : State} (h : step s = .next t) (hduty : s.duty ≤ 2 ^ s.cfg.dutyWidth - 1) :
    t.duty ≤ 2 ^ s.cfg.dutyWidth - 1 := by
  obtain ⟨hl, -⟩ := step_next h
  have hwidth := hl.highest_le_width
  rcases step_cases h with ⟨-, rfl⟩ | ⟨-, -, rfl⟩ | ⟨-, -, -, rfl⟩ | ⟨-, rfl⟩
  · exact hl.lowest_lt_highest.le.trans hwidth
  · exact hduty
  · exact hduty
  · exact (stepTarget_le hl).elim (·.trans hduty) (·.trans hwidth)

theorem step_keeps_div_in_width {s t : State} (h : step s = .next t) (hdiv : s.div ≤ 2 ^ s.cfg.divWidth - 1) :
    t.div ≤ 2 ^ s.cfg.divWidth - 1 := by
  obtain ⟨hl, -⟩ := step_next h
  rcases step_cases h with ⟨-, rfl⟩ | ⟨-, -, rfl⟩ | ⟨-, -, hcount, rfl⟩ | ⟨-, rfl⟩
  · exact Nat.zero_le _
  · exact hdiv
  · exact Nat.le_trans hcount hl.terminalCount_le_width
  · exact Nat.zero_le _

/-- `THR` takes the new `DUTY` or stays, and `THR_EFF` takes the new `THR` or stays, so both fit where `DUTY` does. -/
theorem step_keeps_fitsRegisters {s t : State} (h : step s = .next t) (hfits : FitsRegisters s) :
    FitsRegisters t := by
  have hcfg : t.cfg = s.cfg := step_cfg h
  have hduty := step_keeps_duty_in_width h hfits.duty
  have hthr : t.thr ≤ 2 ^ s.cfg.dutyWidth - 1 := by
    rcases step_writes_or_keeps h with ⟨-, hnew, -⟩ | ⟨-, hold, -, -⟩
    · exact hnew ▸ hduty
    · exact hold ▸ hfits.thr
  refine ⟨hcfg ▸ hduty, hcfg ▸ step_keeps_div_in_width h hfits.div, hcfg ▸ hthr, ?_⟩
  rw [hcfg, step_thrEff h]
  split
  case isTrue => exact hthr
  case isFalse => exact hfits.thrEff

/-! ### The direction over one edge (R124) -/

/-- Where R38 holds the flip of the present `DUTY` is no flip. -/
theorem EngineInv.flip_duty {s : State} (h : EngineInv s) : flip s.cfg s.dir s.duty = s.dir := by
  cases hdir : s.dir with
  | rising => rw [flip_rising, if_neg (h.roomUp hdir).ne]
  | falling => rw [flip_falling h.legal, if_neg (h.roomDown hdir).ne']

/-- Without a reset the new direction is the flip by the new `DUTY`, on a step tick or not. -/
theorem EngineInv.step_dir {s t : State} (h : EngineInv s) (hstep : step s = .next t) (hrst : rstInput s = false) :
    t.dir = flip s.cfg s.dir t.duty := by
  rcases step_cases hstep with ⟨hrst', -⟩ | ⟨-, -, rfl⟩ | ⟨-, -, -, rfl⟩ | ⟨-, rfl⟩
  · exact absurd hrst' (by simp [hrst])
  · exact h.flip_duty.symm
  · exact h.flip_duty.symm
  · rfl

/-! ### The frozen states (R113 (b), R114 (b)) -/

/-- `DUTY` lies outside the range on the side the direction leads away to. -/
abbrev IsFrozen (s : State) : Prop :=
  (s.dir = .rising ∧ s.cfg.highest < s.duty) ∨ (s.dir = .falling ∧ s.duty < s.cfg.lowest)

theorem stepTarget_of_frozen {s : State} (h : IsFrozen s) : stepTarget s = s.duty := by
  rcases h with ⟨hdir, habove⟩ | ⟨hdir, hbelow⟩
  · exact stepTarget_of_ceiling hdir habove.le
  · exact stepTarget_of_floor hdir hbelow.le

/-- Beyond a boundary neither equality test of R115 holds that could turn the direction. -/
theorem flip_of_frozen {s : State} (hl : s.cfg.Legal) (h : IsFrozen s) : flip s.cfg s.dir s.duty = s.dir := by
  rcases h with ⟨hdir, habove⟩ | ⟨hdir, hbelow⟩
  · rw [hdir, flip_rising, if_neg habove.ne']
  · rw [hdir, flip_falling hl, if_neg hbelow.ne]

theorem step_regs_of_rst {s t : State} (h : step s = .next t) (hrst : rstInput s = true) :
    t.regs = (s.cfg.lowest, .rising, 0, s.cfg.lowest) := by
  obtain ⟨-, rfl⟩ := step_next h
  rw [selected_of_rst hrst]
  rfl

/-! ### The closed form within the first breath (R128) -/

theorem breathStep_of_lt_breath {c : Config} {n : Nat} (h : n < 2 * c.rampSteps * c.ticksPerStep) :
    breathStep c n = n / c.ticksPerStep :=
  Nat.mod_eq_of_lt (Nat.div_lt_of_lt_mul (Nat.mul_comm _ c.ticksPerStep ▸ h))

/-- Before tick `N · T` the ceiling is not reached. -/
theorem closedDuty_lt_highest {c : Config} {n : Nat} (hl : c.Legal) (h : n < c.rampSteps * c.ticksPerStep) :
    closedDuty c n < c.highest := by
  have hbreath : n < 2 * c.rampSteps * c.ticksPerStep := by
    rw [Nat.mul_assoc]
    omega
  refine (closedDuty_of_rising hl ?_).2
  rw [breathStep_of_lt_breath hbreath]
  exact Nat.div_lt_of_lt_mul (Nat.mul_comm _ c.ticksPerStep ▸ h)

/-- Inside the breath the registers are never those of RESET: at the floor with `DIV = 0` no tick has passed. -/
theorem closedRegs_ne_reset {c : Config} {n : Nat} (hl : c.Legal) (hpos : 0 < n)
    (h : n < 2 * c.rampSteps * c.ticksPerStep) : closedRegs c n ≠ (c.lowest, .rising, 0, c.lowest) := by
  intro hregs
  simp only [closedRegs, Prod.mk.injEq] at hregs
  obtain ⟨hduty, -, hmod, -⟩ := hregs
  have hdiv : n / c.ticksPerStep = 0 :=
    breathStep_of_lt_breath h ▸ (closedDuty_eq_lowest_iff hl).1 hduty
  have hn := Nat.mod_add_div n c.ticksPerStep
  rw [hmod, hdiv] at hn
  omega

theorem closedRegs_breath {c : Config} (hl : c.Legal) :
    closedRegs c (2 * c.rampSteps * c.ticksPerStep) = (c.lowest, .rising, 0, c.lowest) := by
  rw [← closedRegs_zero hl, ← closedRegs_add_breath hl 0, Nat.zero_add]

/-- `DUTY` depends on the last multiple of `T` ticks alone. -/
theorem closedDuty_div_mul {c : Config} (hl : c.Legal) (n : Nat) :
    closedDuty c (n / c.ticksPerStep * c.ticksPerStep) = closedDuty c n :=
  closedDuty_congr (by rw [breathStep, Nat.mul_div_cancel _ hl.ticksPerStep_pos, breathStep])

end Sys2Proof.Machine

namespace Sys2Proof.Proofs

open Sys2Proof.Machine

/-- Settles O29: the widths are kept by the step lemma for all edges at once; the bounds of the rule are read off the
operation selected. -/
theorem stepKeepsRegistersInWidth : Obligations.StepKeepsRegistersInWidth := by
  intro s t hfits hstep
  refine ⟨step_keeps_fitsRegisters hstep hfits, ?_⟩
  obtain ⟨hl, rfl⟩ := step_next hstep
  refine ⟨fun hsel => ?count, fun hsel => ?up, fun hsel => ?down, ?stall⟩
  case count =>
    obtain ⟨-, -, hcount⟩ := (selected_eq_tickCount_iff s).1 hsel
    rw [hsel]
    exact ⟨rfl, hcount⟩
  case up =>
    rw [hsel]
    exact (riseTarget_bounds s).1
  case down =>
    obtain ⟨-, -, hroom⟩ := (selected_eq_stepDown_iff s).1 hsel
    rw [hsel]
    exact ((fallTarget_bounds s).2 hroom hl.step_pos).le
  case stall =>
    rintro (hsel | hsel)
    · rw [hsel]; rfl
    · rw [hsel]; rfl

/-- Settles O10: a step tick with room to rise selects STEP.UP, whose new duty value is the saturating rise; from
RISING only arrival at the ceiling flips. -/
theorem stepUpSaturatesAndFlips : Obligations.StepUpSaturatesAndFlips := by
  intro s hl hrst htick hlast hdir hroom
  have hstep : IsStepTick s := ⟨hrst, htick, hlast⟩
  have hsel : selected s = .stepUp := (selected_eq_stepUp_iff s).2 ⟨hstep, hdir, hroom⟩
  obtain ⟨hexec, houtputs⟩ := stepTick_answer hstep hsel (stepTarget_of_rising hdir hroom)
  obtain ⟨hceiling, hgrows⟩ := riseTarget_bounds s
  rw [stepActions_eq, hdir, flip_rising] at hexec
  exact ⟨hsel, hexec, hgrows hroom hl.step_pos, hceiling.trans hl.highest_le_width, houtputs⟩

/-- Settles O11: the mirror of O10; the new duty value is at least `LOWEST`, which is at least 1 (R9). -/
theorem stepDownSaturatesAndFlips : Obligations.StepDownSaturatesAndFlips := by
  intro s hl hrst htick hlast hdir hroom
  have hstep : IsStepTick s := ⟨hrst, htick, hlast⟩
  have hsel : selected s = .stepDown := (selected_eq_stepDown_iff s).2 ⟨hstep, hdir, hroom⟩
  obtain ⟨hexec, houtputs⟩ := stepTick_answer hstep hsel (stepTarget_of_falling hdir hroom)
  obtain ⟨hfloor, hshrinks⟩ := fallTarget_bounds s
  rw [stepActions_eq, hdir, flip_falling hl] at hexec
  exact ⟨hsel, hexec, hshrinks hroom hl.step_pos, hl.lowest_pos.trans_le hfloor, houtputs⟩

/-- Settles O12: with no room to rise the new duty value is the old one. -/
theorem stallUpRewritesAndFlipsAtCeiling : Obligations.StallUpRewritesAndFlipsAtCeiling := by
  intro s hl hrst htick hlast hdir hceiling
  have hstep : IsStepTick s := ⟨hrst, htick, hlast⟩
  have hsel : selected s = .stepStallUp := by
    rw [selected_of_stepTick_rising hstep hdir, if_neg (Nat.not_lt.2 hceiling)]
  obtain ⟨hexec, houtputs⟩ := stepTick_answer hstep hsel (stepTarget_of_ceiling hdir hceiling)
  rw [stepActions_eq, hdir, flip_rising] at hexec
  exact ⟨hsel, hexec, houtputs⟩

/-- Settles O13: with no room to fall the new duty value is the old one. -/
theorem stallDownRewritesAndFlipsAtFloor : Obligations.StallDownRewritesAndFlipsAtFloor := by
  intro s hl hrst htick hlast hdir hfloor
  have hstep : IsStepTick s := ⟨hrst, htick, hlast⟩
  have hsel : selected s = .stepStallDown := by
    rw [selected_of_stepTick_falling hstep hdir, if_neg (Nat.not_lt.2 hfloor)]
  obtain ⟨hexec, houtputs⟩ := stepTick_answer hstep hsel (stepTarget_of_floor hdir hfloor)
  rw [stepActions_eq, hdir, flip_falling hl] at hexec
  exact ⟨hsel, hexec, houtputs⟩

/-- Settles O14: an edge that selects a step operation is a step tick, and the answer is the shared actions on the new
duty value. -/
theorem stepOperationsShareActions : Obligations.StepOperationsShareActions := by
  intro i s hi hsel
  have hstep : IsStepTick s := by
    rcases hi with rfl | rfl | rfl | rfl <;>
      exact isStepTick_of_selected (by simp [hsel]) (by simp [hsel]) (by simp [hsel])
  obtain ⟨hexec, houtputs⟩ := stepTick_answer hstep hsel rfl
  refine ⟨_, hexec, rfl, ?_, rfl, rfl, houtputs⟩
  exact flip_eq s.cfg s.dir (stepTarget s)

/-- Settles O33: the moves are computed without wrapping from every state; a move that does not saturate goes by
`STEP ≥ 1` and stays clear of the boundary ahead. -/
theorem wrapFreeMovesAgree : Obligations.WrapFreeMovesAgree := by
  intro s hl
  have hpos := hl.step_pos
  refine ⟨fun _ => ⟨_, exec_eq_performed .stepUp s, riseTarget_eq_wrapFree s, fun hfloor hfar => ?up⟩,
    fun _ => ⟨_, exec_eq_performed .stepDown s, fallTarget_eq_wrapFree s, fun hceiling hfar => ?down⟩⟩
  case up =>
    have hmove : (performed .stepUp s).duty = s.duty + s.cfg.step :=
      (riseTarget_eq_wrapFree s).trans (if_neg hfar)
    omega
  case down =>
    have hmove : (performed .stepDown s).duty = s.duty - s.cfg.step :=
      (fallTarget_eq_wrapFree s).trans (if_neg hfar)
    omega

/-- Settles O34: the state is on the lattice of its direction (R40), above each point of which a whole step fits. -/
theorem saturatingMovesAgreeWithLiteral : Obligations.SaturatingMovesAgreeWithLiteral := by
  intro s hinv hdvd
  have hl := hinv.legal
  have hrange := hl.lowest_lt_highest
  obtain ⟨hrising, hfalling⟩ := hinv.lattice_points
  constructor
  · intro hsel
    obtain ⟨-, hdir, -⟩ := (selected_eq_stepUp_iff s).1 hsel
    obtain ⟨j, hj, hduty⟩ := hrising hdir
    have hfits := Config.step_fits_of_dvd hl hdvd hj
    have hroom : s.duty + s.cfg.step ≤ s.cfg.highest := by omega
    exact ⟨hroom, _, exec_eq_performed .stepUp s, Nat.min_eq_right hroom⟩
  · intro hsel
    obtain ⟨-, hdir, -⟩ := (selected_eq_stepDown_iff s).1 hsel
    obtain ⟨j, hj, hduty⟩ := hfalling hdir
    have hfits := Config.step_fits_of_dvd hl hdvd hj
    have hroom : s.cfg.lowest + s.cfg.step ≤ s.duty := by omega
    have hmove : fallTarget s + s.cfg.step = s.duty := by
      rw [fallTarget]
      omega
    exact ⟨hroom, _, exec_eq_performed .stepDown s, hmove⟩

/-- Settles O35: the new direction is the flip by the new `DUTY`, and the flip by the present one is none. -/
theorem directionFlipsExactlyOnArrival : Obligations.DirectionFlipsExactlyOnArrival := by
  intro s t hinv hstep hrst
  have hl := hinv.legal
  have hflip := hinv.step_dir hstep hrst
  refine ⟨fun hdir => ?rising, fun hdir => ?falling, fun hturn hsame => ?turn, ?ceiling, ?floor⟩
  case rising => simp [hflip, hdir, flip_rising]
  case falling => simp [hflip, hdir, flip_falling hl]
  case turn => exact hturn (by rw [hflip, hsame, hinv.flip_duty])
  case ceiling =>
    rintro ⟨hduty, hdir⟩
    simp [hflip, hduty, flip_highest] at hdir
  case floor =>
    rintro ⟨hduty, hdir⟩
    simp [hflip, hduty, flip_lowest hl] at hdir

/-- Settles O36: R37 leaves only `DIV = T - 1`, and R38 gives room in the direction of travel, so the edge is a move. -/
theorem everyStepTickMovesDuty : Obligations.EveryStepTickMovesDuty := by
  intro s hinv hstep
  have ⟨_, _, hlast⟩ := hstep
  have hmoves : stepTarget s ≠ s.duty := hinv.stepTarget_ne
  refine ⟨hinv.divRange.antisymm hlast, fun hdir => ?rising, fun hdir => ?falling, _, step_of_legal hinv.legal, ?_⟩
  case rising => exact (selected_eq_stepUp_iff s).2 ⟨hstep, hdir, hinv.roomUp hdir⟩
  case falling => exact (selected_eq_stepDown_iff s).2 ⟨hstep, hdir, hinv.roomDown hdir⟩
  rw [performed_of_stepTick hstep, hinv.thrTracks]
  exact ⟨hmoves, hmoves⟩

/-- Settles O37: in a frozen state a step tick is a stall that turns nothing, and every other edge without a reset leaves
`DUTY` and `DIR` alone (R93). -/
theorem frozenUntilReset : Obligations.FrozenUntilReset := by
  intro s t hfrozen hstep
  refine ⟨fun hrst => ?_, step_regs_of_rst hstep⟩
  by_cases htick : IsStepTick s
  · obtain ⟨hl, rfl⟩ := step_next hstep
    rw [performed_of_stepTick htick, stepTarget_of_frozen hfrozen]
    exact ⟨rfl, flip_of_frozen hl hfrozen⟩
  · obtain ⟨hduty, hdir, -⟩ := step_gated hstep hrst htick
    exact ⟨hduty, hdir⟩

/-- Settles O43: the run ends on the closed form for its number of ticks (R41), read at `N * T`, at `2 * N * T` and
between. -/
theorem firstArrivalAndReturn : Obligations.FirstArrivalAndReturn := by
  intro c evs hl hnoReset
  obtain ⟨t, hrun, ht⟩ :=
    run_of_step_keeps step_keeps_onClosedForm evs hl rfl hnoReset (onClosedForm_afterReset hl evs)
  obtain ⟨rfl, hregs, -⟩ := ht
  rw [Nat.zero_add] at hregs
  obtain ⟨hduty, hdir, -⟩ := (regs_eq_closedRegs_iff t _).1 hregs
  refine ⟨t, hrun, fun hn => ?below, fun hn => ?ceiling, fun hpos hn => ?within, fun hn => ?back, ?multiple⟩
  case below => exact hduty ▸ closedDuty_lt_highest hl hn
  case ceiling =>
    rw [hn, closedRegs_ramp hl, regs_eq_iff] at hregs
    obtain ⟨hduty, hdir, -⟩ := hregs
    exact ⟨hduty, hdir⟩
  case within => exact hregs ▸ closedRegs_ne_reset hl hpos hn
  case back => rw [hregs, hn, closedRegs_breath hl]
  case multiple => rw [hduty, closedDuty_div_mul hl]

end Sys2Proof.Proofs

/-! PROOFS. The statements of spec/42_system_ops.md: RESET (R140) and IDLE (R141), their whole effect and their outputs
(R80). -/

namespace Sys2Proof.Machine

@[simp] theorem performed_reset (s : State) : performed .reset s = resetActions s := rfl

/-- What RESET changes, as one record: `DUTY`, `DIR`, `DIV`, `THR` and the trace (R140). -/
theorem resetActions_eq (s : State) :
    resetActions s = { s with
      duty := s.cfg.lowest, dir := .rising, div := 0, thr := s.cfg.lowest, trace := s.trace ++ [s.cfg.lowest] } := rfl

end Sys2Proof.Machine

namespace Sys2Proof.Proofs

open Sys2Proof.Machine

/-- Settles O6: RESET answers with the reset actions; `rst = 1` selects it whatever `tick` is, and `thr_data` is the
duty value those actions write. -/
theorem resetInitialisesEngine : Obligations.ResetInitialisesEngine := by
  intro s
  constructor
  · rw [exec_eq_performed, performed_reset, resetActions_eq]
  · intro hrst
    have hsel : selected s = .reset := selected_of_rst hrst
    have hwe : thrWe s = true := (thrWe_iff_reset_or_stepTick s).2 (.inl hrst)
    exact ⟨hsel, hwe, by rw [thrData_eq_performed, hsel, performed_reset, resetActions_duty]⟩

/-- Settles O8: IDLE answers with the state it is given; with both inputs 0 it is selected, no write is enabled, and
`thr_data` is the duty value it keeps. -/
theorem idleChangesNothing : Obligations.IdleChangesNothing := by
  intro s
  constructor
  · rw [exec_eq_performed, performed_idle]
  · intro hrst htick
    have hsel : selected s = .idle := selected_of_idle hrst htick
    have hwe : thrWe s = false := by simp [thrWe_eq_inputs, hrst, htick]
    exact ⟨hsel, hwe, by rw [thrData_eq_performed, hsel, performed_idle]⟩

end Sys2Proof.Proofs

/-! PROOFS. The statements of spec/60_exceptions.md: the one refusal (R152), the answer to every edge (R150), a reset
together with a tick (R158), and the comparator beside the engine (R162, R165, R166). -/

namespace Sys2Proof

theorem Config.Legal.carrierPeriod_pos {c : Config} (hl : c.Legal) : 0 < c.carrierPeriod := by
  obtain ⟨hrange, -, -, hcarrier, -⟩ := hl
  omega

end Sys2Proof

namespace Sys2Proof.Machine

/-! ### The refusal of an illegal configuration (R152) -/

theorem step_of_firstFailed {s : State} {k : ConfigCheck} (h : s.cfg.firstFailed = some k) :
    step s = .refused (.illegalConfig k) := by
  simp only [step, h]

/-- A step is refused for the first failing check, and for nothing else. -/
theorem step_refused_iff (s : State) (k : ConfigCheck) :
    step s = .refused (.illegalConfig k) ↔ s.cfg.firstFailed = some k := by
  refine ⟨fun hstep => ?_, step_of_firstFailed⟩
  cases hfirst : s.cfg.firstFailed with
  | none => simp [step_of_legal ((Config.firstFailed_eq_none_iff s.cfg).1 hfirst)] at hstep
  | some j => simpa [step_of_firstFailed hfirst] using hstep

theorem exists_step_refused_iff (s : State) :
    (∃ k, step s = .refused (.illegalConfig k)) ↔ ¬s.cfg.Legal := by
  simp only [step_refused_iff, ← Config.firstFailed_eq_none_iff, ← Option.ne_none_iff_exists']

/-! ### Edges with a reset (R158) -/

theorem step_of_rst {s : State} (hl : s.cfg.Legal) (hrst : rstInput s = true) :
    step s = .next (afterOperation (resetActions s)) := by
  rw [step_of_legal hl, selected_of_rst hrst, performed_reset]

/-- RESET never looks at the event word it uses up, so any two that ask for a reset are answered alike. -/
theorem step_present_of_rst (s : State) {ev ev' : EventWord} (hev : ev[1] = true) (hev' : ev'[1] = true) :
    step (s.present ev) = step (s.present ev') := by
  cases hfirst : s.cfg.firstFailed with
  | some k =>
    have hrefused (w : EventWord) : step (s.present w) = .refused (.illegalConfig k) := step_of_firstFailed hfirst
    rw [hrefused, hrefused]
  | none =>
    have hl : s.cfg.Legal := (Config.firstFailed_eq_none_iff s.cfg).1 hfirst
    calc step (s.present ev)
      _ = .next (afterOperation (resetActions (s.present ev))) := step_of_rst hl hev
      _ = .next (afterOperation (resetActions (s.present ev'))) := rfl
      _ = step (s.present ev') := (step_of_rst (s := s.present ev') hl hev').symm

end Sys2Proof.Machine

namespace Sys2Proof.Proofs

open Sys2Proof.Machine

/-- Settles O3: the six constraints are legality, and the check named is the first that fails. -/
theorem illegalConfigurationIsRefused : Obligations.IllegalConfigurationIsRefused :=
  fun s => ⟨exists_step_refused_iff s, fun k hstep => Config.firstFailed_fails ((step_refused_iff s k).1 hstep)⟩

/-- Settles O45: the new view and the new events are functions of the old view and the old events, and whether there is
an answer depends on the configuration alone. -/
theorem comparatorNeverReachesEngine : Obligations.ComparatorNeverReachesEngine := by
  intro s s' t hview hevents hstep
  have hcfg : s.cfg = s'.cfg := congrArg Prod.fst hview
  have hpresented : presented s = presented s' := congrArg (List.headD · _) hevents
  obtain ⟨hl, -⟩ := step_next hstep
  have hstep' := step_of_legal (hcfg ▸ hl)
  refine ⟨_, hstep', ?view, ?events⟩
  case view => rw [step_engineView hstep, step_engineView hstep', hview, hpresented]
  case events => rw [step_events hstep, step_events hstep', hevents]

/-- Settles O47: the fraction is a quotient by `CARRIER_PERIOD`, which is positive in a legal engine and at least
`HIGHEST`; so it grows with `THR_EFF`, and `LOWEST ≥ 1` keeps it off 0. -/
theorem activeFractionIsNeverZero : Obligations.ActiveFractionIsNeverZero := by
  intro s hl
  have ⟨_, _, _, hcarrier, hlowest, _⟩ := hl
  have hperiod : (0 : Rat) < s.cfg.carrierPeriod := Nat.cast_pos.2 hl.carrierPeriod_pos
  refine ⟨fun hle => ⟨_, activeFraction_of_le hle, ?value, ?nonneg, ?le_one⟩,
    fun ⟨hfloor, hceiling⟩ => ⟨_, activeFraction_of_le (hceiling.trans hcarrier), ?floor, ?ceiling, ?pos⟩,
    activeFraction_of_gt⟩
  case value => exact div_mul_cancel₀ _ hperiod.ne'
  case nonneg => positivity
  case le_one => exact (div_le_one hperiod).2 (Nat.cast_le.2 hle)
  case floor => gcongr
  case ceiling => gcongr
  case pos => exact div_pos (Nat.cast_pos.2 (hlowest.trans hfloor)) hperiod

/-- Settles O4: a legal engine's step answers, and there is no fault to end in. -/
theorem everyEdgeAnswersNext : Obligations.EveryEdgeAnswersNext :=
  ⟨fun _ hl => ⟨_, step_of_legal hl⟩, fun _ fault => nomatch fault⟩

/-- Settles O7: `rst = 1` selects RESET in both, and RESET does not see the tick. -/
theorem resetDiscardsTick : Obligations.ResetDiscardsTick :=
  fun s => ⟨selected_of_rst (by simp), step_present_of_rst s (by decide) (by decide)⟩

end Sys2Proof.Proofs

/-! PROOFS. The statement of spec/70_reset_and_hazards.md: the constants over one edge (R187, R8, R152). -/

namespace Sys2Proof.Machine

/-- Only a legal engine answers (R152), and it is still legal afterwards, its constants being the same (R187). -/
theorem step_keeps_legal {s t : State} (h : step s = .next t) : t.cfg.Legal := by
  obtain ⟨hl, -⟩ := step_next h
  exact (step_cfg h).symm ▸ hl

end Sys2Proof.Machine

namespace Sys2Proof.Proofs

open Sys2Proof.Machine

/-- Settles O5: no operation and no end of an edge writes the configuration, and an illegal one is refused before any
operation runs. -/
theorem stepKeepsConstants : Obligations.StepKeepsConstants :=
  fun _ _ hstep => ⟨step_cfg hstep, step_keeps_legal hstep⟩

end Sys2Proof.Proofs
